-- ==== Sys2Proof/Word.lean ====
section
/-! DEFINITION. The word types of the model (00_scope.md R4: data are 8 bits, `v` and `t` 15, the bus address 14). -/
namespace Sys2Proof

/-- One byte: every access on every space moves exactly one (20_memory.md R74). -/
abbrev Byte := BitVec 8

/-- The 16-bit stimulus word (30_encoding.md R90). -/
abbrev Word16 := BitVec 16

/-- The width of `v` and `t` (10_state.md R15, R16). -/
abbrev VramAddr := BitVec 15

/-- An address on the PPU bus (20_memory.md R61). -/
abbrev BusAddr := BitVec 14

/-- An address in the pattern region, as the cartridge sees it (20_memory.md R64). -/
abbrev PatternAddr := BitVec 13

end Sys2Proof
end

