-- ==== Sys2Proof/Config.lean ====
section
/-! DEFINITION. What the spec leaves to the implementation: the named constants and the parameters of 00_scope.md R5,
and the free values an opaque cartridge answers with. -/
namespace Sys2Proof

/-- The five mirroring modes (10_state.md R35); the spec gives them no numbers. -/
inductive Mirroring where
  | horizontal
  | vertical
  | single0
  | single1
  | fourScreen
  deriving DecidableEq, Repr

/-- One entry of `NES_RGB_PALETTE` (30_encoding.md R105). -/
structure Rgb where
  r : Byte
  g : Byte
  b : Byte
  deriving DecidableEq, Repr

/-- One call the PPU makes to the cartridge, with its arguments (00_scope.md R9, 10_state.md R37). -/
inductive CartCall where
  | ppuRead (a : PatternAddr)
  | ppuWrite (a : PatternAddr) (b : Byte)
  | mirroring
  | clockScanline
  deriving DecidableEq, Repr

/-- The open parameters of 00_scope.md R5 other than the cartridge and the initial memories. They are data of the
State, which no operation changes, so a statement about every state holds for every value of them (log entry 6). -/
structure Params where
  staticMirroring : Mirroring
  powerUpPalette : Vector Byte 32
  rgbPalette : Vector Rgb 64
  prerenderSpriteClear : Bool
  deriving DecidableEq, Repr

namespace Config

/-- `NMI_DELAY` (00_scope.md R5, 92_eei_decisions.md D9). -/
def nmiDelay : Nat := 14

/-- `NMI_HOLD` (00_scope.md R5, 92_eei_decisions.md D9). -/
def nmiHold : Nat := 2

/-- FREE VALUE (log entry 4): what mapper `id`, after the calls `history` (newest first), answers to `ppu_read(a)`;
`none` is its failure. -/
opaque mapperRead (id : Nat) (history : List CartCall) (a : PatternAddr) : Option Byte

/-- FREE VALUE (log entry 4): what mapper `id`, after the calls `history`, answers to `mirroring()`. -/
opaque mapperMirroring (id : Nat) (history : List CartCall) : Option Mirroring

/-- `RGB_T0[i] = (i, i + 64, i + 128)`, the table of the spec's test environment (92_eei_decisions.md D28). -/
def rgbT0 : Vector Rgb 64 :=
  Vector.ofFn fun i : Fin 64 =>
    { r := BitVec.ofNat 8 i.val, g := BitVec.ofNat 8 (i.val + 64), b := BitVec.ofNat 8 (i.val + 128) }

/-- DESIGN CHOICE (log entry 6): the parameters of the reset state are those of the spec's own test environment
(95_test_vectors.md section 1). -/
def specTest : Params where
  staticMirroring := .horizontal
  powerUpPalette := Vector.replicate 32 0
  rgbPalette := rgbT0
  prerenderSpriteClear := false

end Config
end Sys2Proof
end

