-- ==== Sys2Proof/Syntax.lean ====
section
/-! DEFINITION. The operations of the PPU: one constructor per row of spec/opcode_table.json (00_scope.md R6,
30_encoding.md R107), and the form in which one arrives. -/
namespace Sys2Proof

/-- The 21 operations. A bus read's data byte is ignored by its encoding (30_encoding.md R90), so it is no operand;
`DMA` keeps its ignored `page` byte, which the spec names as an operand (41_host_ops.md R150). -/
inductive Instr where
  | wPpuCtrl (d : Byte)
  | wPpuMask (d : Byte)
  | wPpuStatus (d : Byte)
  | wOamAddr (d : Byte)
  | wOamData (d : Byte)
  | wPpuScroll (d : Byte)
  | wPpuAddr (d : Byte)
  | wPpuData (d : Byte)
  | rPpuCtrl
  | rPpuMask
  | rPpuStatus
  | rOamAddr
  | rOamData
  | rPpuScroll
  | rPpuAddr
  | rPpuData
  | tick
  | reset
  | nmiAck
  | dma (page : Byte) (bytes : List Byte)
  | frameAck
  deriving DecidableEq, Repr

/-- One stimulus: its word and the payload bytes that follow it (30_encoding.md R90, R109). -/
structure Stimulus where
  word : Word16
  payload : List Byte
  deriving DecidableEq, Repr

end Sys2Proof
end

