-- ==== Sys2Proof/WellFormed.lean ====
section
/-! DEFINITION. Which operations the spec admits: a `DMA` carries exactly 256 payload bytes (30_encoding.md R109 (2),
92_eei_decisions.md D32); nothing else is constrained, "all inputs have defined behaviour after masking". -/
namespace Sys2Proof

/-- The number of payload bytes of a `DMA` (30_encoding.md R109). -/
def dmaLength : Nat := 256

def Instr.wellFormed (i : Instr) : Bool :=
  match i with
  | .wPpuCtrl _ => true
  | .wPpuMask _ => true
  | .wPpuStatus _ => true
  | .wOamAddr _ => true
  | .wOamData _ => true
  | .wPpuScroll _ => true
  | .wPpuAddr _ => true
  | .wPpuData _ => true
  | .rPpuCtrl => true
  | .rPpuMask => true
  | .rPpuStatus => true
  | .rOamAddr => true
  | .rOamData => true
  | .rPpuScroll => true
  | .rPpuAddr => true
  | .rPpuData => true
  | .tick => true
  | .reset => true
  | .nmiAck => true
  | .dma _ bytes => bytes.length == dmaLength
  | .frameAck => true

end Sys2Proof
end

