-- ==== Sys2Proof/Decode.lean ====
section
/-! DEFINITION. The decoder of stimuli, total, rejecting by name (30_encoding.md R90, R91, R107 to R109), and the
encoder written from the same table. -/
namespace Sys2Proof

/-- Why a stimulus names no operation (30_encoding.md R108, R109). -/
inductive DecodeError where
  /-- kind 6 to 15 (R108 (a)). -/
  | reservedKind
  /-- kind 1, 2, 3, 5 with any of bits 11:0 set, or kind 4 with any of bits 11:8 set (R108 (a)). -/
  | nonZeroFixedBits
  /-- a payload of any length but 256 after a `DMA` word, or any payload after another word (R109 (2), D32). -/
  | payloadLength
  deriving DecidableEq, Repr

/-- The `kind` field, bits 15:12 (R90). -/
def wordKind (w : Word16) : Nat := w.toNat / 4096

/-- The `rw` bit and the `reg` field together, bits 11:8 (R90). -/
def wordRwReg (w : Word16) : Nat := w.toNat / 256 % 16

/-- The `data` field, bits 7:0 (R90). -/
def wordData (w : Word16) : Byte := w.setWidth 8

/-- The sixteen rows of kind 0: `rw` = 0 is a write, 1 a read; `reg` is the select (R91, R107, 20_memory.md R70). -/
def decodeBus (rwReg : Nat) (d : Byte) : Instr :=
  match rwReg with
  | 0 => .wPpuCtrl d
  | 1 => .wPpuMask d
  | 2 => .wPpuStatus d
  | 3 => .wOamAddr d
  | 4 => .wOamData d
  | 5 => .wPpuScroll d
  | 6 => .wPpuAddr d
  | 7 => .wPpuData d
  | 8 => .rPpuCtrl
  | 9 => .rPpuMask
  | 10 => .rPpuStatus
  | 11 => .rOamAddr
  | 12 => .rOamData
  | 13 => .rPpuScroll
  | 14 => .rPpuAddr
  | _ => .rPpuData

/-- An event word: every bit below the kind must be 0 (R90, R108 (a)). -/
def decodeEvent (w : Word16) (i : Instr) : Except DecodeError Instr :=
  if w.toNat % 4096 = 0 then .ok i else .error .nonZeroFixedBits

/-- The words of one length (R107): every kind but `DMA`. -/
def decodeWord (w : Word16) : Except DecodeError Instr :=
  match wordKind w with
  | 0 => .ok (decodeBus (wordRwReg w) (wordData w))
  | 1 => decodeEvent w .tick
  | 2 => decodeEvent w .reset
  | 3 => decodeEvent w .nmiAck
  | 5 => decodeEvent w .frameAck
  | _ => .error .reservedKind

/-- `DMA`: bits 11:8 zero, bits 7:0 the ignored page, then exactly 256 bytes (R107, R109 (2)). -/
def decodeDma (w : Word16) (payload : List Byte) : Except DecodeError Instr :=
  if wordRwReg w ≠ 0 then .error .nonZeroFixedBits
  else if payload.length ≠ dmaLength then .error .payloadLength
  else .ok (.dma (wordData w) payload)

/-- Decode one stimulus; the length is known from `kind` alone (R109 (2)). -/
def decode (st : Stimulus) : Except DecodeError Instr :=
  if wordKind st.word = 4 then decodeDma st.word st.payload
  else
    match decodeWord st.word with
    | .error e => .error e
    | .ok i => if st.payload = [] then .ok i else .error .payloadLength

/-- A word from its fields (R90). -/
def busWord (rwReg : Nat) (d : Byte) : Word16 := BitVec.ofNat 16 (rwReg * 256 + d.toNat)

/-- The stimulus of an operation (R107). The ignored data byte of a bus read is written as 0 (log entry 14). -/
def encode (i : Instr) : Stimulus :=
  match i with
  | .wPpuCtrl d => { word := busWord 0 d, payload := [] }
  | .wPpuMask d => { word := busWord 1 d, payload := [] }
  | .wPpuStatus d => { word := busWord 2 d, payload := [] }
  | .wOamAddr d => { word := busWord 3 d, payload := [] }
  | .wOamData d => { word := busWord 4 d, payload := [] }
  | .wPpuScroll d => { word := busWord 5 d, payload := [] }
  | .wPpuAddr d => { word := busWord 6 d, payload := [] }
  | .wPpuData d => { word := busWord 7 d, payload := [] }
  | .rPpuCtrl => { word := busWord 8 0, payload := [] }
  | .rPpuMask => { word := busWord 9 0, payload := [] }
  | .rPpuStatus => { word := busWord 10 0, payload := [] }
  | .rOamAddr => { word := busWord 11 0, payload := [] }
  | .rOamData => { word := busWord 12 0, payload := [] }
  | .rPpuScroll => { word := busWord 13 0, payload := [] }
  | .rPpuAddr => { word := busWord 14 0, payload := [] }
  | .rPpuData => { word := busWord 15 0, payload := [] }
  | .tick => { word := 0x1000#16, payload := [] }
  | .reset => { word := 0x2000#16, payload := [] }
  | .nmiAck => { word := 0x3000#16, payload := [] }
  | .dma page bytes => { word := BitVec.ofNat 16 (0x4000 + page.toNat), payload := bytes }
  | .frameAck => { word := 0x5000#16, payload := [] }

/-- Byte `k` of a bit string numbered from bit 0 upwards. -/
def bitStringByte (w k : Nat) : Byte := BitVec.ofNat 8 (w >>> (8 * k))

/-- The stimulus whose bits, numbered as spec/opcode_table.json numbers them, are `w`: the first word is bits 15:0,
payload byte `k` is bits 16 + 8k and up. A `DMA` word has 256 payload bytes; another word has those that `nbits`
counts past 16 (none, for a row of the table). -/
def stimulusOfBits (nbits w : Nat) : Stimulus :=
  let bits := w % 2 ^ nbits
  let word := BitVec.ofNat 16 bits
  let n := if wordKind word = 4 then max dmaLength ((nbits - 16) / 8) else (nbits - 16) / 8
  { word := word, payload := (List.range n).map fun k => bitStringByte (bits >>> 16) k }

/-- The instruction the decoder reads from the bits `w` of a row (see `stimulusOfBits`). -/
def decodeTableWord (nbits w : Nat) : Option Instr :=
  match decode (stimulusOfBits nbits w) with
  | .ok i => some i
  | .error _ => none

end Sys2Proof
end

