-- ==== Sys2Proof/Machine/State.lean ====
section
/-! DEFINITION. The state of the PPU (10_state.md), its fault and its refusals, and the state after reset. -/
namespace Sys2Proof.Machine

/-- A memory: the bytes that differ from `Memory.unlisted`, addresses strictly rising (log entry 7). -/
abbrev Memory := List Host.Cell

/-- What an address that is not listed reads as. DESIGN CHOICE, unsafe (log entry 7): the spec gives the memories no
contents at power-up (70_reset_and_hazards.md R261). -/
def Memory.unlisted : Byte := 0

/-- The control, status and data registers (10_state.md R11 to R20). -/
@[ext]
structure Regs where
  ctrl : Byte
  mask : Byte
  status : Byte
  oamAddr : Byte
  v : VramAddr
  t : VramAddr
  fineX : BitVec 3
  addressLatch : Bool
  ppuDataBuffer : Byte
  renderingEnabled : Bool
  deriving DecidableEq, Repr

/-- The background fetch latches and shifters (10_state.md R21, R22). -/
@[ext]
structure BgPipe where
  nextTileId : Byte
  nextTileAttr : BitVec 2
  nextTileLsb : Byte
  nextTileMsb : Byte
  patternLo : BitVec 16
  patternHi : BitVec 16
  attrLo : BitVec 16
  attrHi : BitVec 16
  deriving DecidableEq, Repr

/-- One slot of secondary OAM: the four bytes of an OAM entry (10_state.md R26, R29; 30_encoding.md R99). -/
@[ext]
structure Slot where
  y : Byte
  tile : Byte
  attr : Byte
  x : Byte
  deriving DecidableEq, Repr

/-- The active sprite line, its shifters and its sprite-zero flags (10_state.md R26 to R28). -/
@[ext]
structure SpriteLine where
  slots : Vector Slot 8
  count : Nat
  shifterLo : Vector Byte 8
  shifterHi : Vector Byte 8
  zeroHitPossible : Bool
  zeroBeingRendered : Bool
  deriving DecidableEq, Repr

/-- The evaluation array, cursors and flags (10_state.md R29, R30). -/
@[ext]
structure SpriteEval where
  slots : Vector Slot 8
  count : Nat
  n : Nat
  m : BitVec 2
  readLatch : Byte
  zeroPossible : Bool
  overflowMode : Bool
  done : Bool
  deriving DecidableEq, Repr

/-- The sequencer and the frame flags (10_state.md R31, R32). -/
@[ext]
structure Sequencer where
  scanline : Int
  cycle : Nat
  oddFrame : Bool
  frameComplete : Bool
  oddSkipLatch : Bool
  deriving DecidableEq, Repr

/-- The NMI edge logic, the NMI flag and the two suppression flags (10_state.md R33, R34). -/
@[ext]
structure NmiState where
  occurred : Bool
  output : Bool
  previous : Bool
  delay : Nat
  hold : Nat
  flag : Bool
  suppressVblank : Bool
  suppressNmi : Bool
  deriving DecidableEq, Repr

/-- The mirroring state (10_state.md R35). -/
@[ext]
structure MirrorState where
  dynamic : Bool
  cached : Mirroring
  deriving DecidableEq, Repr

/-- The spec's test cartridge T0 (92_eei_decisions.md D29): 8192 bytes of CHR RAM and a count of `clock_scanline()`
calls. `mode` is what `mirroring()` answers: none for T0 itself, a mode for its variant with dynamic mirroring
(95_test_vectors.md V-M8). -/
structure T0Board where
  chr : Memory
  mode : Option Mirroring
  clocks : Nat
  deriving DecidableEq, Repr

/-- The cartridge, the parameter `CART` (00_scope.md R5, 92_eei_decisions.md D4): the test cartridge, or any mapper.
What a mapper answers is a free value of Config, so a statement about every state assumes nothing of it (log entry 4). -/
inductive Cart where
  | testT0 (board : T0Board)
  | mapper (id : Nat)
  deriving DecidableEq, Repr

/-- What an operation returned to its issuer (00_scope.md R9). The model's own (log entry 3). -/
inductive Answer where
  | nothing
  | byte (b : Byte)
  | flag (b : Bool)
  deriving DecidableEq, Repr

/-- Everything the PPU holds (10_state.md), the cartridge and parameters it is bound to (00_scope.md R5), and the
model's own record of its interface (INVENTORY.md, State). -/
@[ext]
structure State where
  regs : Regs
  bg : BgPipe
  spr : SpriteLine
  eval : SpriteEval
  seq : Sequencer
  nmi : NmiState
  mir : MirrorState
  nametable : Memory
  palette : Vector (BitVec 6) 32
  oam : Memory
  frame : Memory
  cart : Cart
  cartLog : List CartCall
  params : Params
  stimuli : List Stimulus
  answer : Answer
  deriving DecidableEq, Repr

/-- The one way an operation can fail (60_exceptions.md R235). -/
inductive Fault where
  /-- Raised by `R.PPUDATA` and `TICK` when the cartridge fails a `ppu_read`; the spec gives the state after it no
  meaning (R235, D30). Safe: nothing can be proved of a run past it (log entry 8). -/
  | mapperFault
  deriving DecidableEq, Repr

/-- Why a stimulus is not executed. -/
inductive Refusal where
  /-- Raised by a refused arm of `exec` only: an operation without a meaning in this model. Safe. -/
  | notModelled (mnemonic : String)
  /-- Raised by `step` for a stimulus that names no operation (30_encoding.md R108, R109). Safe. -/
  | undefinedStimulus (e : DecodeError)
  /-- Raised by the meaning of `DMA` for a payload of other than 256 bytes, a term no stimulus decodes to
  (30_encoding.md R109 (2), 92_eei_decisions.md D32). Safe. -/
  | dmaPayloadLength
  deriving DecidableEq, Repr

/-! The zero values of `RESET` step 1 (70_reset_and_hazards.md R260), one per group of registers. -/

def Regs.zero : Regs :=
  { ctrl := 0, mask := 0, status := 0, oamAddr := 0, v := 0, t := 0, fineX := 0, addressLatch := false,
    ppuDataBuffer := 0, renderingEnabled := false }

def BgPipe.zero : BgPipe :=
  { nextTileId := 0, nextTileAttr := 0, nextTileLsb := 0, nextTileMsb := 0, patternLo := 0, patternHi := 0,
    attrLo := 0, attrHi := 0 }

def Slot.zero : Slot := { y := 0, tile := 0, attr := 0, x := 0 }

def SpriteLine.zero : SpriteLine :=
  { slots := Vector.replicate 8 Slot.zero, count := 0, shifterLo := Vector.replicate 8 0,
    shifterHi := Vector.replicate 8 0, zeroHitPossible := false, zeroBeingRendered := false }

def SpriteEval.zero : SpriteEval :=
  { slots := Vector.replicate 8 Slot.zero, count := 0, n := 0, m := 0, readLatch := 0, zeroPossible := false,
    overflowMode := false, done := false }

/-- The sequencer after `RESET`: dot (−1, 0) of an even frame (10_state.md R31, R32; R260 step 3). -/
def Sequencer.start : Sequencer :=
  { scanline := -1, cycle := 0, oddFrame := false, frameComplete := false, oddSkipLatch := false }

def NmiState.zero : NmiState :=
  { occurred := false, output := false, previous := false, delay := 0, hold := 0, flag := false,
    suppressVblank := false, suppressNmi := false }

/-- The machine right after construction and `RESET` (70_reset_and_hazards.md R260 to R262), with the cartridge T0 and
the parameters of the spec's test environment (log entries 4, 5, 6, 7). The one entry of `cartLog` is the query of
`RESET` step 4. -/
def State.reset : State :=
  { regs := Regs.zero
    bg := BgPipe.zero
    spr := SpriteLine.zero
    eval := SpriteEval.zero
    seq := Sequencer.start
    nmi := NmiState.zero
    mir := { dynamic := false, cached := .horizontal }
    nametable := []
    palette := Vector.replicate 32 0
    oam := []
    frame := []
    cart := .testT0 { chr := [], mode := none, clocks := 0 }
    cartLog := [.mirroring]
    params := Config.specTest
    stimuli := []
    answer := .nothing }

end Sys2Proof.Machine
end

