-- ==== Sys2Proof/Machine/Ops.lean ====
section
/-! DEFINITION. The shared operations: bits, memories, the cartridge, the PPU bus, OAM, the fetch of a stimulus, and the
one exception. -/
namespace Sys2Proof.Machine

/-! ## Updates of one group of the state -/

def State.setRegs (s : State) (r : Regs) : State := { s with regs := r }
def State.setBg (s : State) (b : BgPipe) : State := { s with bg := b }
def State.setSpr (s : State) (p : SpriteLine) : State := { s with spr := p }
def State.setEval (s : State) (e : SpriteEval) : State := { s with eval := e }
def State.setSeq (s : State) (q : Sequencer) : State := { s with seq := q }
def State.setNmi (s : State) (n : NmiState) : State := { s with nmi := n }
def State.setMir (s : State) (m : MirrorState) : State := { s with mir := m }
def State.setNametable (s : State) (m : Memory) : State := { s with nametable := m }
def State.setPalette (s : State) (p : Vector (BitVec 6) 32) : State := { s with palette := p }
def State.setOam (s : State) (m : Memory) : State := { s with oam := m }
def State.setFrame (s : State) (m : Memory) : State := { s with frame := m }
/-- A call to the cartridge: its state after the call, and the call added to the record (00_scope.md R9). -/
def State.setCart (s : State) (c : Cart) (call : CartCall) : State := { s with cart := c, cartLog := call :: s.cartLog }
def State.setAnswer (s : State) (a : Answer) : State := { s with answer := a }

/-! ## Bits (00_scope.md R58) -/

/-- `x[i]`. -/
def bit {w : Nat} (x : BitVec w) (i : Nat) : Bool := x.getLsbD i

/-- `x[i] <- b`, the other bits kept. -/
def setBit (x : Byte) (i : Nat) (b : Bool) : Byte :=
  if b then x ||| (1#8 <<< i) else x &&& ~~~(1#8 <<< i)

/-- The mask that tells whether rendering is enabled, `$18` (10_state.md R20). -/
def renderMask : Byte := 0x18#8

/-- `rendering_enabled` as an expression of `mask` (10_state.md R20). -/
def renderingOf (mask : Byte) : Bool := mask &&& renderMask != 0#8

/-! ## Memories -/

/-- The byte at address `a`. -/
def Memory.read : Memory → Nat → Byte
  | [], _ => Memory.unlisted
  | (k, x) :: m, a => if k = a then x else Memory.read m a

/-- Put `b` at `a` before the cells of `m`, or nothing when that is what an unlisted address reads as. -/
def Memory.cons (a : Nat) (b : Byte) (m : Memory) : Memory :=
  if b = Memory.unlisted then m else (a, b) :: m

/-- Store `b` at address `a`, keeping the canonical form. -/
def Memory.write : Memory → Nat → Byte → Memory
  | [], a, b => Memory.cons a b []
  | (k, x) :: m, a, b =>
    if a < k then Memory.cons a b ((k, x) :: m)
    else if k = a then Memory.cons a b m
    else (k, x) :: Memory.write m a b

/-- Every address is at least `lo`, addresses strictly rise and stay below `size`, and no listed byte is what an
unlisted address reads as. -/
def Memory.wfFrom (size : Nat) : Nat → Memory → Bool
  | _, [] => true
  | lo, (k, x) :: m => decide (lo ≤ k) && decide (k < size) && (x != Memory.unlisted) && Memory.wfFrom size (k + 1) m

/-- The canonical form of a memory of `size` bytes (log entry 7). -/
def Memory.wf (size : Nat) (m : Memory) : Bool := Memory.wfFrom size 0 m

def nametableSize : Nat := 4096
def oamSize : Nat := 256
def frameSize : Nat := 184320
def chrSize : Nat := 8192

/-! ## The exception -/

/-- Raise `MapperFault`, the only exception (60_exceptions.md R235): the operation does not complete. -/
def raiseMapperFault {α : Type} : Except Fault α := .error .mapperFault

/-! ## The cartridge (10_state.md R37, 00_scope.md R5) -/

/-- What the cartridge answers to `ppu_read(a)`; `none` is a failure. -/
def cartReadAnswer (s : State) (a : PatternAddr) : Option Byte :=
  match s.cart with
  | .testT0 board => some (Memory.read board.chr a.toNat)
  | .mapper id => Config.mapperRead id s.cartLog a

/-- `CART.ppu_read(a)`; a failure raises `MapperFault` (20_memory.md R64). -/
def cartPpuRead (a : PatternAddr) (s : State) : Except Fault (Byte × State) :=
  match cartReadAnswer s a with
  | some b => .ok (b, s.setCart s.cart (.ppuRead a))
  | none => raiseMapperFault

/-- `CART.ppu_write(a, b)`; it cannot fail (60_exceptions.md R235). -/
def cartPpuWrite (a : PatternAddr) (b : Byte) (s : State) : State :=
  match s.cart with
  | .testT0 board => s.setCart (.testT0 { board with chr := Memory.write board.chr a.toNat b }) (.ppuWrite a b)
  | .mapper id => s.setCart (.mapper id) (.ppuWrite a b)

/-- What the cartridge answers to `mirroring()`; `none` is the sentinel. -/
def cartMirroringAnswer (s : State) : Option Mirroring :=
  match s.cart with
  | .testT0 board => board.mode
  | .mapper id => Config.mapperMirroring id s.cartLog

/-- The state after a `CART.mirroring()` call. -/
def cartMirroringCall (s : State) : State := s.setCart s.cart .mirroring

/-- `CART.clock_scanline()` (45_frame_driver.md R221). -/
def cartClockScanline (s : State) : State :=
  match s.cart with
  | .testT0 board => s.setCart (.testT0 { board with clocks := board.clocks + 1 }) .clockScanline
  | .mapper id => s.setCart (.mapper id) .clockScanline

/-! ## The PPU bus (20_memory.md R61 to R68) -/

/-- An address register as the bus sees it: `a & $3FFF` (R61). -/
def busAddr (v : VramAddr) : BusAddr := v.setWidth 14

/-- The mirroring map (R66). -/
def pageOf (m : Mirroring) (tsel : BitVec 2) : BitVec 2 :=
  match m with
  | .horizontal => if tsel = 0 ∨ tsel = 1 then 0 else 1
  | .vertical => tsel &&& 1#2
  | .single0 => 0
  | .single1 => 1
  | .fourScreen => tsel

/-- The query before a nametable access under dynamic mirroring; the last answer that is a mode is kept (R67). -/
def queryMirroring (s : State) : State :=
  if s.mir.dynamic then
    match cartMirroringAnswer s with
    | some m => (cartMirroringCall s).setMir { s.mir with cached := m }
    | none => cartMirroringCall s
  else s

/-- The key of byte `index` of page `page` in `nametable` (10_state.md R23). -/
def nametableKey (page : BitVec 2) (index : BitVec 10) : Nat := page.toNat * 1024 + index.toNat

/-- Where a nametable address leads under the mode `m` (R65, R66). -/
def nametableCell (m : Mirroring) (a : BusAddr) : Nat :=
  nametableKey (pageOf m (a.extractLsb' 10 2)) (a.setWidth 10)

/-- The palette index with its aliases (R68). -/
def palIndex (a : BusAddr) : BitVec 5 :=
  let p := a.setWidth 5
  if p = 0x10#5 ∨ p = 0x14#5 ∨ p = 0x18#5 ∨ p = 0x1C#5 then p - 0x10#5 else p

def paletteGet (p : Vector (BitVec 6) 32) (i : BitVec 5) : BitVec 6 := p[i.toNat]'(i.isLt)

def paletteSet (p : Vector (BitVec 6) 32) (i : BitVec 5) (c : BitVec 6) : Vector (BitVec 6) 32 :=
  p.set i.toNat c i.isLt

/-- `PpuRead(a)` (R62). -/
def ppuRead (a : BusAddr) (s : State) : Except Fault (Byte × State) :=
  if a.toNat < 0x2000 then cartPpuRead (a.setWidth 13) s
  else if a.toNat < 0x3F00 then
    let q := queryMirroring s
    .ok (Memory.read q.nametable (nametableCell q.mir.cached a), q)
  else .ok ((paletteGet s.palette (palIndex a)).setWidth 8, s)

/-- `PpuWrite(a, b)` (R63). -/
def ppuWrite (a : BusAddr) (b : Byte) (s : State) : State :=
  if a.toNat < 0x2000 then cartPpuWrite (a.setWidth 13) b s
  else if a.toNat < 0x3F00 then
    let q := queryMirroring s
    q.setNametable (Memory.write q.nametable (nametableCell q.mir.cached a) b)
  else s.setPalette (paletteSet s.palette (palIndex a) (b.setWidth 6))

/-- A read on the PPU bus whose byte changes the state by `k` (a rendering fetch). -/
def fetchInto (a : BusAddr) (k : Byte → State → State) (s : State) : Except Fault State :=
  match ppuRead a s with
  | .ok (b, q) => .ok (k b q)
  | .error f => .error f

/-! ## OAM (20_memory.md R69) -/

def oamRead (s : State) (a : Byte) : Byte := Memory.read s.oam a.toNat

/-- The burst of `DMA` (41_host_ops.md R150): byte `k` to `(a + k) & $FF`. -/
def oamBurst (oam : Memory) (a : Byte) : List Byte → Memory
  | [] => oam
  | b :: bs => oamBurst (Memory.write oam a.toNat b) (a + 1#8) bs

/-! ## The stimuli (log entry 1) -/

/-- The next pending stimulus and the state without it; none when the environment has issued nothing more. -/
def fetchStimulus (s : State) : Option (Stimulus × State) :=
  match s.stimuli with
  | [] => none
  | st :: rest => some (st, { s with stimuli := rest })

/-- A procedure that may raise the exception, as an outcome of an operation. -/
def outcomeOf (r : Except Fault State) : Host.Outcome State Fault Refusal :=
  match r with
  | .ok t => .next t
  | .error f => .fault f

end Sys2Proof.Machine
end

