-- ==== Sys2Proof/Machine/Flags.lean ====
section
/-! DEFINITION. The status flags and the NMI logic (10_state.md R13, R33, R34; 60_exceptions.md R236 to R240). -/
namespace Sys2Proof.Machine

/-- `status[7]`, vblank. -/
def vblankBit : Nat := 7
/-- `status[6]`, sprite-zero hit. -/
def hitBit : Nat := 6
/-- `status[5]`, sprite overflow. -/
def overflowBit : Nat := 5

/-- `status[i] <- b`. -/
def State.setStatusBit (s : State) (i : Nat) (b : Bool) : State :=
  s.setRegs { s.regs with status := setBit s.regs.status i b }

/-- `nmi_line`, combinational (R236). -/
def nmiLine (n : NmiState) : Bool := n.output && n.occurred

/-- `NmiChange` (R237): a rising edge arms both counters, whatever they held (D10). -/
def nmiChange (n : NmiState) : NmiState :=
  if nmiLine n && !n.previous then
    { n with delay := Config.nmiDelay, hold := Config.nmiHold, previous := nmiLine n }
  else { n with previous := nmiLine n }

/-- `SetVblank(on)` (R238). -/
def setVblank (on : Bool) (s : State) : State :=
  (s.setStatusBit vblankBit on).setNmi (nmiChange { s.nmi with occurred := on })

/-- `NmiCounterStep` (R239): the hold window first, then the delay (D8). -/
def nmiCounterStep (n : NmiState) : NmiState :=
  if n.delay > 0 then
    if n.hold > 0 then
      if nmiLine n then { n with hold := n.hold - 1 } else { n with delay := 0, hold := 0 }
    else if n.delay = 1 then { n with delay := 0, flag := true }
    else { n with delay := n.delay - 1 }
  else n

/-- `CancelNmi` (R240): the flag and both counters (D7). -/
def cancelNmi (n : NmiState) : NmiState := { n with flag := false, delay := 0, hold := 0 }

/-- The byte `R.PPUSTATUS` returns (40_register_access.md R131, 30_encoding.md section 2). -/
def statusByte (r : Regs) : Byte := (r.status &&& 0xE0#8) ||| (r.ppuDataBuffer &&& 0x1F#8)

end Sys2Proof.Machine
end

