-- ==== Sys2Proof/Machine/Operands.lean ====
section
/-! DEFINITION. The data formats: how `t` and `fine_x` are assembled from write data (30_encoding.md R97, R98), the
scroll arithmetic of `v` (42_background_pipeline.md R168 to R173, 40_register_access.md R137), and the fetch addresses
(30_encoding.md R100 to R104; 43_sprites.md R190 to R193). -/
namespace Sys2Proof.Machine

/-! ## Write pairs -/

/-- The byte zero-extended to the width of `t` (40_register_access.md R138). -/
def wide (d : Byte) : VramAddr := d.setWidth 15

/-- `t[11:10] <- d[1:0]` (R121). -/
def tFromCtrl (t : VramAddr) (d : Byte) : VramAddr := (t &&& 0x73FF#15) ||| ((wide d &&& 3#15) <<< 10)

/-- First `$2005` write: `t[4:0] <- d[7:3]` (R126, R97). -/
def tFromScrollX (t : VramAddr) (d : Byte) : VramAddr := (t &&& 0x7FE0#15) ||| (wide d >>> 3)

/-- Second `$2005` write: `t[14:12] <- d[2:0]`, `t[9:5] <- d[7:3]` (R126, R97). -/
def tFromScrollY (t : VramAddr) (d : Byte) : VramAddr :=
  let t1 := (t &&& 0x0FFF#15) ||| ((wide d &&& 7#15) <<< 12)
  (t1 &&& 0x7C1F#15) ||| ((wide d &&& 0xF8#15) <<< 2)

/-- First `$2006` write: `t[13:8] <- d[5:0]`, `t[14] <- 0` (R127, R98). -/
def tFromAddrHigh (t : VramAddr) (d : Byte) : VramAddr := (t &&& 0x00FF#15) ||| ((wide d &&& 0x3F#15) <<< 8)

/-- Second `$2006` write: `t[7:0] <- d` (R127, R98). -/
def tFromAddrLow (t : VramAddr) (d : Byte) : VramAddr := (t &&& 0x7F00#15) ||| wide d

/-! ## Arithmetic of `v` -/

/-- `VramStep` (R137): a plain 15-bit add of 1, or of 32 when `ctrl[2]` is set. -/
def vramStep (ctrl : Byte) (v : VramAddr) : VramAddr := v + (if bit ctrl 2 then 32#15 else 1#15)

/-- `IncrementScrollX` without its gate (R168). -/
def incrementX (v : VramAddr) : VramAddr :=
  if v &&& 0x1F#15 = 31#15 then (v &&& 0x7FE0#15) ^^^ 0x0400#15 else v + 1#15

/-- Coarse-Y, `v[9:5]`. -/
def coarseY (v : VramAddr) : VramAddr := (v >>> 5) &&& 0x1F#15

/-- Fine-Y, `v[14:12]`. -/
def fineY (v : VramAddr) : VramAddr := (v >>> 12) &&& 7#15

/-- `IncrementScrollY` without its gate (R169). -/
def incrementY (v : VramAddr) : VramAddr :=
  if fineY v < 7#15 then v + 0x1000#15
  else
    let v0 := v &&& 0x0FFF#15
    let y := coarseY v0
    if y = 29#15 then (v0 ^^^ 0x0800#15) &&& 0x7C1F#15
    else if y = 31#15 then v0 &&& 0x7C1F#15
    else (v0 &&& 0x7C1F#15) ||| ((y + 1#15) <<< 5)

/-- `TransferAddressX` without its gate (R172). -/
def transferX (v t : VramAddr) : VramAddr := (v &&& 0x7BE0#15) ||| (t &&& 0x041F#15)

/-- `TransferAddressY` without its gate (R173). -/
def transferY (v t : VramAddr) : VramAddr := (v &&& 0x041F#15) ||| (t &&& 0x7BE0#15)

/-! ## Fetch addresses -/

/-- The nametable fetch address `$2000 | (v & $0FFF)` (30_encoding.md R100). -/
def nametableAddr (v : VramAddr) : BusAddr := 0x2000#14 ||| (busAddr v &&& 0x0FFF#14)

/-- The attribute fetch address (30_encoding.md R101). -/
def attributeAddr (v : VramAddr) : BusAddr :=
  0x23C0#14 ||| (busAddr v &&& 0x0C00#14) ||| ((busAddr v >>> 4) &&& 0x38#14) ||| ((busAddr v >>> 2) &&& 7#14)

/-- The two attribute bits of the quadrant `v` names (42_background_pipeline.md R163). -/
def attributeBits (v : VramAddr) (a : Byte) : BitVec 2 :=
  let a1 := if v &&& 0x0040#15 ≠ 0#15 then a >>> 4 else a
  let a2 := if v &&& 0x0002#15 ≠ 0#15 then a1 >>> 2 else a1
  a2.setWidth 2

/-- The background pattern address of the low plane (42_background_pipeline.md R164, 30_encoding.md R102). -/
def bgPatternAddr (ctrl tileId : Byte) (v : VramAddr) : BusAddr :=
  (if bit ctrl 4 then 0x1000#14 else 0#14) + (tileId.setWidth 14 <<< 4) + (fineY v).setWidth 14

/-- The sprite height (10_state.md R11 bit 5). -/
def spriteHeight (ctrl : Byte) : Int := if bit ctrl 5 then 16 else 8

/-- The row of a sprite that falls on scanline `sl`, flip-V applied (43_sprites.md R190): an unbounded integer. -/
def spriteRow (h sl : Int) (y attr : Byte) : Int :=
  let row := sl - (y.toNat : Int)
  if bit attr 7 then h - 1 - row else row

/-- `SpritePatternAddress` for 8×8 sprites (43_sprites.md R191). -/
def spriteAddr8 (ctrl tile : Byte) (row : Int) : Int :=
  (if bit ctrl 3 then 0x1000 else 0) + (tile.toNat : Int) * 16 + row

/-- `SpritePatternAddress` for 8×16 sprites (43_sprites.md R192); `row -= 8` belongs to the `if` (D20). -/
def spriteAddr16 (tile : Byte) (row : Int) : Int :=
  let table : Int := if bit tile 0 then 0x1000 else 0
  let pair : Int := ((tile &&& 0xFE#8).toNat : Int)
  if row > 7 then table + (pair + 1) * 16 + (row - 8) else table + pair * 16 + row

/-- The pattern address of a slot's row, before the reduction modulo `$4000` (43_sprites.md R190). -/
def spriteAddr (ctrl tile : Byte) (row : Int) : Int :=
  if bit ctrl 5 then spriteAddr16 tile row else spriteAddr8 ctrl tile row

/-- `addr mod $4000` (43_sprites.md R190 (4), D21). -/
def busOfInt (a : Int) : BusAddr := BitVec.ofInt 14 a

/-- `Reverse8` (43_sprites.md R193). -/
def reverse8 (b : Byte) : Byte := b.reverse

/-- Flip-H of a fetched plane (43_sprites.md R190). -/
def flipH (attr b : Byte) : Byte := if bit attr 6 then reverse8 b else b

/-- The compositor's palette address with its alias step (44_compositor.md R205, 30_encoding.md R104). -/
def compositorPaletteAddr (pixel : BitVec 2) (palette : BitVec 3) : BitVec 5 :=
  let pa : BitVec 5 := (palette.setWidth 5 <<< 2) ||| pixel.setWidth 5
  if pa &&& 0x13#5 = 0x10#5 then pa &&& 0x0F#5 else pa

/-- The offset of the red byte of the pixel composed at dot `(sl, c)` (20_memory.md R71, 44_compositor.md R206). -/
def pixelOffset (sl : Int) (c : Nat) : Nat := (sl.toNat * 256 + (c - 1)) * 3

end Sys2Proof.Machine
end

