-- ==== Sys2Proof/Machine/BusWrite.lean ====
section
/-! DEFINITION. The eight bus writes (40_register_access.md R121 to R128). -/
namespace Sys2Proof.Machine

/-- `W.PPUCTRL` (R121). -/
def execWPpuCtrl (d : Byte) (s : State) : Host.Outcome State Fault Refusal :=
  .next ((s.setRegs { s.regs with ctrl := d, t := tFromCtrl s.regs.t d }).setNmi
    (nmiChange { s.nmi with output := bit d 7 }))

/-- `W.PPUMASK` (R122). -/
def execWPpuMask (d : Byte) (s : State) : Host.Outcome State Fault Refusal :=
  .next (s.setRegs { s.regs with mask := d, renderingEnabled := renderingOf d })

/-- `W.PPUSTATUS` (R123): no state changes (D24). -/
def execWPpuStatus (_d : Byte) (s : State) : Host.Outcome State Fault Refusal := .next s

/-- `W.OAMADDR` (R124). -/
def execWOamAddr (d : Byte) (s : State) : Host.Outcome State Fault Refusal :=
  .next (s.setRegs { s.regs with oamAddr := d })

/-- `W.OAMDATA` (R125). -/
def execWOamData (d : Byte) (s : State) : Host.Outcome State Fault Refusal :=
  .next ((s.setOam (Memory.write s.oam s.regs.oamAddr.toNat d)).setRegs
    { s.regs with oamAddr := s.regs.oamAddr + 1#8 })

/-- `W.PPUSCROLL` (R126): the toggle chooses the first or the second write. -/
def execWPpuScroll (d : Byte) (s : State) : Host.Outcome State Fault Refusal :=
  if s.regs.addressLatch then
    .next (s.setRegs { s.regs with t := tFromScrollY s.regs.t d, addressLatch := false })
  else
    .next (s.setRegs { s.regs with
      t := tFromScrollX s.regs.t d, fineX := d.setWidth 3, addressLatch := true })

/-- `W.PPUADDR` (R127): the second write copies all 15 bits of `t` to `v`. -/
def execWPpuAddr (d : Byte) (s : State) : Host.Outcome State Fault Refusal :=
  if s.regs.addressLatch then
    .next (s.setRegs { s.regs with
      t := tFromAddrLow s.regs.t d, v := tFromAddrLow s.regs.t d, addressLatch := false })
  else .next (s.setRegs { s.regs with t := tFromAddrHigh s.regs.t d, addressLatch := true })

/-- `VramStep` on the state (R137). -/
def stepVram (s : State) : State := s.setRegs { s.regs with v := vramStep s.regs.ctrl s.regs.v }

/-- `W.PPUDATA` (R128): no exception; the read buffer is not touched. -/
def execWPpuData (d : Byte) (s : State) : Host.Outcome State Fault Refusal :=
  .next (stepVram (ppuWrite (busAddr s.regs.v) d s))

end Sys2Proof.Machine
end

