-- ==== Sys2Proof/Machine/BusRead.lean ====
section
/-! DEFINITION. The eight bus reads (40_register_access.md R129 to R136). The byte returned is left in `answer`
(log entry 3). -/
namespace Sys2Proof.Machine

/-- A read of a write-only register returns 0 and changes nothing (R129, R130, R132, R134, R135). -/
def readZero (s : State) : State := s.setAnswer (.byte 0)

/-- `R.PPUCTRL` (R129). -/
def execRPpuCtrl (s : State) : Host.Outcome State Fault Refusal := .next (readZero s)

/-- `R.PPUMASK` (R130). -/
def execRPpuMask (s : State) : Host.Outcome State Fault Refusal := .next (readZero s)

/-- The race flags of a `$2002` read (R131): the stored position decides (45_frame_driver.md R228). -/
def statusRace (q : Sequencer) (n : NmiState) : NmiState :=
  if q.scanline = 241 ∧ q.cycle = 1 then { n with suppressVblank := true, suppressNmi := true }
  else if q.scanline = 241 ∧ (q.cycle = 2 ∨ q.cycle = 3) then cancelNmi { n with suppressNmi := true }
  else n

/-- `R.PPUSTATUS` (R131): the result is taken before every side effect (D42). -/
def execRPpuStatus (s : State) : Host.Outcome State Fault Refusal :=
  let s1 := setVblank false (s.setNmi (statusRace s.seq s.nmi))
  let s2 := s1.setRegs { s1.regs with addressLatch := false }
  .next (s2.setAnswer (.byte (statusByte s.regs)))

/-- `R.OAMADDR` (R132). -/
def execROamAddr (s : State) : Host.Outcome State Fault Refusal := .next (readZero s)

/-- `R.OAMDATA` (R133): no increment. -/
def execROamData (s : State) : Host.Outcome State Fault Refusal :=
  .next (s.setAnswer (.byte (oamRead s s.regs.oamAddr)))

/-- `R.PPUSCROLL` (R134). -/
def execRPpuScroll (s : State) : Host.Outcome State Fault Refusal := .next (readZero s)

/-- `R.PPUADDR` (R135). -/
def execRPpuAddr (s : State) : Host.Outcome State Fault Refusal := .next (readZero s)

/-- The end of a `$2007` read: the buffer refilled, `v` stepped, the byte answered (R136). -/
def finishDataRead (result buffer : Byte) (s : State) : State :=
  (stepVram (s.setRegs { s.regs with ppuDataBuffer := buffer })).setAnswer (.byte result)

/-- The palette case of `R.PPUDATA` (R136): the entry at once, then the byte underneath into the buffer (D36). -/
def readDataPalette (s : State) : Except Fault State :=
  match ppuRead (busAddr s.regs.v) s with
  | .error f => .error f
  | .ok (result, s1) => fetchInto (busAddr (s.regs.v - 0x1000#15)) (finishDataRead result) s1

/-- The buffered case of `R.PPUDATA` (R136). -/
def readDataBuffered (s : State) : Except Fault State :=
  fetchInto (busAddr s.regs.v) (finishDataRead s.regs.ppuDataBuffer) s

/-- `R.PPUDATA` (R136). -/
def execRPpuData (s : State) : Host.Outcome State Fault Refusal :=
  outcomeOf (if 0x3F00 ≤ (busAddr s.regs.v).toNat then readDataPalette s else readDataBuffered s)

end Sys2Proof.Machine
end

