-- ==== Sys2Proof/Machine/Background.lean ====
section
/-! DEFINITION. The background fetch pipeline: `BgDot` and what it calls (42_background_pipeline.md R160 to R176). -/
namespace Sys2Proof.Machine

/-- `ShiftBg` (R161): the four shifters left by one. -/
def shiftBg (b : BgPipe) : BgPipe :=
  { b with
    patternLo := b.patternLo <<< 1
    patternHi := b.patternHi <<< 1
    attrLo := b.attrLo <<< 1
    attrHi := b.attrHi <<< 1 }

/-- The low byte of a shifter replaced, the high byte kept (R167). -/
def loadLow (shifter : BitVec 16) (byte : Byte) : BitVec 16 := (shifter &&& 0xFF00#16) ||| byte.setWidth 16

/-- An attribute bit expanded to a lane (R167). -/
def lane (b : Bool) : Byte := if b then 0xFF#8 else 0x00#8

/-- `LoadBgShifters` (R167). -/
def loadBgShifters (b : BgPipe) : BgPipe :=
  { b with
    patternLo := loadLow b.patternLo b.nextTileLsb
    patternHi := loadLow b.patternHi b.nextTileMsb
    attrLo := loadLow b.attrLo (lane (bit b.nextTileAttr 0))
    attrHi := loadLow b.attrHi (lane (bit b.nextTileAttr 1)) }

/-- `FetchNametableByte` (R162). -/
def fetchNametableByte (s : State) : Except Fault State :=
  fetchInto (nametableAddr s.regs.v) (fun b q => q.setBg { q.bg with nextTileId := b }) s

/-- `FetchAttribute` (R163). -/
def fetchAttribute (s : State) : Except Fault State :=
  fetchInto (attributeAddr s.regs.v)
    (fun b q => q.setBg { q.bg with nextTileAttr := attributeBits s.regs.v b }) s

/-- `FetchPatternLow` (R164). -/
def fetchPatternLow (s : State) : Except Fault State :=
  fetchInto (bgPatternAddr s.regs.ctrl s.bg.nextTileId s.regs.v)
    (fun b q => q.setBg { q.bg with nextTileLsb := b }) s

/-- `FetchPatternHigh` (R165): the address is formed anew from the state at this dot (D14). -/
def fetchPatternHigh (s : State) : Except Fault State :=
  fetchInto (bgPatternAddr s.regs.ctrl s.bg.nextTileId s.regs.v + 8#14)
    (fun b q => q.setBg { q.bg with nextTileMsb := b }) s

/-- A change of `v` gated on `rendering_enabled` (R168, R169, R172, R173; D13). -/
def scrollIfRendering (f : VramAddr → VramAddr) (s : State) : State :=
  if s.regs.renderingEnabled then s.setRegs { s.regs with v := f s.regs.v } else s

/-- `IncrementScrollX` (R168). -/
def incrementScrollX (s : State) : State := scrollIfRendering incrementX s

/-- `IncrementScrollY` (R169). -/
def incrementScrollY (s : State) : State := scrollIfRendering incrementY s

/-- `TransferAddressX` (R172). -/
def transferAddressX (s : State) : State := scrollIfRendering (fun v => transferX v s.regs.t) s

/-- `TransferAddressY` (R173). -/
def transferAddressY (s : State) : State := scrollIfRendering (fun v => transferY v s.regs.t) s

/-- `DummyNametableFetch` (R174): the byte is discarded (D11). -/
def dummyNametableFetch (s : State) : Except Fault State :=
  fetchInto (nametableAddr s.regs.v) (fun _ q => q) s

/-- The active window, dots 2–257 and 321–337 (R160). -/
def bgActive (c : Nat) : Bool := (decide (2 ≤ c) && decide (c ≤ 257)) || (decide (321 ≤ c) && decide (c ≤ 337))

/-- The gated shift of a dot of the window (R161). -/
def shiftIfRendering (s : State) : State :=
  if s.regs.renderingEnabled then s.setBg (shiftBg s.bg) else s

/-- The phase action of a dot of the window (R160, R162 to R166, R176). -/
def bgPhase (c : Nat) (s : State) : Except Fault State :=
  match (c - 1) % 8 with
  | 0 => fetchNametableByte (s.setBg (loadBgShifters s.bg))
  | 2 => fetchAttribute s
  | 4 => fetchPatternLow s
  | 6 => fetchPatternHigh s
  | 7 => .ok (incrementScrollX s)
  | _ => .ok s

/-- Shift and phase action, in the window only (R160). -/
def bgWindow (c : Nat) (s : State) : Except Fault State :=
  if bgActive c then bgPhase c (shiftIfRendering s) else .ok s

/-- The scroll work of dots 256, 257 and 280–304 (R170, R171, R173). -/
def bgScroll (sl : Int) (c : Nat) (s : State) : State :=
  let s1 := if c = 256 then incrementScrollY s else s
  let s2 := if c = 257 then transferAddressX (s1.setBg (loadBgShifters s1.bg)) else s1
  if sl = -1 ∧ 280 ≤ c ∧ c ≤ 304 then transferAddressY s2 else s2

/-- The dummy fetches of dots 338 and 340 (R174). -/
def bgDummy (c : Nat) (s : State) : Except Fault State :=
  if c = 338 ∨ c = 340 then dummyNametableFetch s else .ok s

/-- `BgDot(s, c)` (R160). -/
def bgDot (sl : Int) (c : Nat) (s : State) : Except Fault State :=
  match bgWindow c s with
  | .ok q => bgDummy c (bgScroll sl c q)
  | .error f => .error f

end Sys2Proof.Machine
end

