-- ==== Sys2Proof/Machine/Sprites.lean ====
section
/-! DEFINITION. The sprite part of a tick: `SpriteDot` and what it calls (43_sprites.md R180 to R193). -/
namespace Sys2Proof.Machine

/-! ## Countdown and shifters -/

/-- Slot `i` is active (10_state.md R26, D19). -/
def activeSlot (p : SpriteLine) (i : Fin 8) : Bool := decide (i.val < p.count)

/-- `UpdateSpriteShifters` (R181): an active slot counts down, or shifts once its countdown is 0. -/
def updateSpriteShifters (p : SpriteLine) : SpriteLine :=
  { p with
    slots := Vector.ofFn fun i : Fin 8 =>
      if activeSlot p i && p.slots[i].x != 0 then { p.slots[i] with x := p.slots[i].x - 1 } else p.slots[i]
    shifterLo := Vector.ofFn fun i : Fin 8 =>
      if activeSlot p i && p.slots[i].x == 0 then p.shifterLo[i] <<< 1 else p.shifterLo[i]
    shifterHi := Vector.ofFn fun i : Fin 8 =>
      if activeSlot p i && p.slots[i].x == 0 then p.shifterHi[i] <<< 1 else p.shifterHi[i] }

/-! ## Evaluation -/

/-- The reset of evaluation at dot 65 (R182, D18). -/
def evalReset (e : SpriteEval) : SpriteEval :=
  { e with count := 0, n := 0, m := 0, overflowMode := false, done := false, zeroPossible := false }

/-- `EvalRead` (R183). -/
def evalRead (s : State) : State :=
  s.setEval { s.eval with readLatch := oamRead s (BitVec.ofNat 8 (s.eval.n * 4 + s.eval.m.toNat)) }

/-- `InRange(s, b)` (R188): the difference is an integer (D21). -/
def inRange (ctrl : Byte) (sl : Int) (b : Byte) : Bool :=
  decide (0 ≤ sl - (b.toNat : Int)) && decide (sl - (b.toNat : Int) < (if bit ctrl 5 then 16 else 8))

/-- Byte `m` of a slot replaced (00_scope.md R58, `.byte[k]`). -/
def Slot.setByte (sl : Slot) (m : BitVec 2) (b : Byte) : Slot :=
  if m = 0#2 then { sl with y := b }
  else if m = 1#2 then { sl with tile := b }
  else if m = 2#2 then { sl with attr := b }
  else { sl with x := b }

/-- Store byte `m` of slot `k`. An index past 7 stores nothing; no reachable state has one (10_state.md R38 (i),
log entry 11). -/
def setSlotByte (v : Vector Slot 8) (k : Nat) (m : BitVec 2) (b : Byte) : Vector Slot 8 :=
  if h : k < 8 then v.set k (v[k].setByte m b) else v

/-- The cursor moves to the next sprite; 64 is the end (R184 to R186). -/
def nextSprite (e : SpriteEval) : SpriteEval :=
  { e with n := e.n + 1, done := e.done || decide (e.n + 1 = 64) }

/-- `EvalDecide`, normal mode, m = 0 (R184). -/
def evalDecideY (found : Bool) (e : SpriteEval) : SpriteEval :=
  if found then
    if e.count < 8 then
      { e with
        slots := setSlotByte e.slots e.count 0 e.readLatch
        zeroPossible := e.zeroPossible || decide (e.n = 0)
        m := 1 }
    else { e with overflowMode := true }
  else nextSprite e

/-- `EvalDecide`, normal mode, m = 1, 2, 3 (R185). -/
def evalDecideCopy (e : SpriteEval) : SpriteEval :=
  let e1 := { e with slots := setSlotByte e.slots e.count e.m e.readLatch, m := e.m + 1#2 }
  if e.m = 3#2 then
    let e2 := nextSprite e1
    { e2 with count := e2.count + 1, overflowMode := e2.overflowMode || decide (e2.count + 1 = 8) }
  else e1

/-- `EvalDecide`, overflow mode (R186): a miss advances `n` and, modulo 4, `m`. -/
def evalDecideOverflow (found : Bool) (e : SpriteEval) : SpriteEval :=
  if found then { e with done := true } else { nextSprite e with m := e.m + 1#2 }

/-- `EvalDecide` on the evaluation state (R184 to R186). -/
def evalDecide (found : Bool) (e : SpriteEval) : SpriteEval :=
  if e.overflowMode then evalDecideOverflow found e
  else if e.m = 0#2 then evalDecideY found e
  else evalDecideCopy e

/-- An even dot of the evaluation window: decide, and set `status[5]` on a hit in overflow mode (R184 to R186). -/
def evalDecideDot (sl : Int) (s : State) : State :=
  let found := inRange s.regs.ctrl sl s.eval.readLatch
  let t := s.setEval (evalDecide found s.eval)
  if s.eval.overflowMode && found then t.setStatusBit overflowBit true else t

/-- `EvalDot(s, c)` after the reset of dot 65 (R182, R187; the parity is that of the dot, D37). -/
def evalWork (sl : Int) (c : Nat) (s : State) : State :=
  if s.eval.done then s else if c % 2 = 1 then evalRead s else evalDecideDot sl s

/-- `EvalDot(s, c)` (R182). -/
def evalDot (sl : Int) (c : Nat) (s : State) : State :=
  evalWork sl c (if c = 65 then s.setEval (evalReset s.eval) else s)

/-! ## Copy and pattern fetch -/

/-- `CopySpriteLine` (R189): the clear of the active slots is overwritten by the copy of all eight. -/
def copySpriteLine (s : State) : State :=
  s.setSpr { s.spr with slots := s.eval.slots, count := s.eval.count, zeroHitPossible := s.eval.zeroPossible }

/-- The two planes of slot `i` fetched and stored in its shifters (R190). -/
def fetchSlotPatterns (sl : Int) (i : Fin 8) (s : State) : Except Fault State :=
  let slot := s.spr.slots[i]
  let row := spriteRow (spriteHeight s.regs.ctrl) sl slot.y slot.attr
  let addr := spriteAddr s.regs.ctrl slot.tile row
  match ppuRead (busOfInt addr) s with
  | .error f => .error f
  | .ok (lo, s1) =>
    match ppuRead (busOfInt (addr + 8)) s1 with
    | .error f => .error f
    | .ok (hi, s2) =>
      .ok (s2.setSpr { s2.spr with
        shifterLo := s2.spr.shifterLo.set i (flipH slot.attr lo)
        shifterHi := s2.spr.shifterHi.set i (flipH slot.attr hi) })

/-- The slots of a list, in order, the inactive ones passed over (R190). -/
def fetchSlots (sl : Int) : List (Fin 8) → State → Except Fault State
  | [], s => .ok s
  | i :: rest, s =>
    if activeSlot s.spr i then
      match fetchSlotPatterns sl i s with
      | .ok t => fetchSlots sl rest t
      | .error f => .error f
    else fetchSlots sl rest s

/-- The eight slots in order. -/
def allSlots : List (Fin 8) := [0, 1, 2, 3, 4, 5, 6, 7]

/-- `FetchSpritePatterns(s)` (R190). -/
def fetchSpritePatterns (sl : Int) (s : State) : Except Fault State := fetchSlots sl allSlots s

/-- The part of `SpriteDot` that reads no pattern (R180). -/
def spriteWork (sl : Int) (c : Nat) (s : State) : State :=
  let s1 := if 2 ≤ c ∧ c ≤ 256 then s.setSpr (updateSpriteShifters s.spr) else s
  let s2 := if 65 ≤ c ∧ c ≤ 256 ∧ s1.regs.renderingEnabled = true then evalDot sl c s1 else s1
  if c = 257 then copySpriteLine s2 else s2

/-- `SpriteDot(s, c)` (R180). -/
def spriteDot (sl : Int) (c : Nat) (s : State) : Except Fault State :=
  let t := spriteWork sl c s
  if c = 340 then fetchSpritePatterns sl t else .ok t

end Sys2Proof.Machine
end

