-- ==== Sys2Proof/Machine/Compositor.lean ====
section
/-! DEFINITION. The compositor: `Compose` and what it calls (44_compositor.md R200 to R208). -/
namespace Sys2Proof.Machine

/-- A pixel with its palette number; the background's palette is 0..3, a sprite's 4..7 (30_encoding.md R104). -/
structure Pixel where
  value : BitVec 2
  palette : BitVec 3
  deriving DecidableEq, Repr

/-- What `FgPixel` yields: the pixel, its priority (true is in front), and whether slot 0 won (R202). -/
structure FgResult where
  pixel : Pixel
  priority : Bool
  slotZero : Bool
  deriving DecidableEq, Repr

/-- The transparent pixel (0, 0). -/
def Pixel.clear : Pixel := { value := 0, palette := 0 }

/-- The defaults when no sprite pixel wins (R202, D23). -/
def FgResult.none : FgResult := { pixel := Pixel.clear, priority := false, slotZero := false }

/-- Two bits as a number, high bit first. -/
def twoBits (hi lo : Bool) : BitVec 2 := BitVec.ofBool hi ++ BitVec.ofBool lo

/-- `BgPixel(c)` (R201): the tap is bit 15 − fine_x. -/
def bgPixel (r : Regs) (b : BgPipe) (c : Nat) : Pixel :=
  if bit r.mask 3 && (bit r.mask 1 || decide (c > 8)) then
    let k := 15 - r.fineX.toNat
    { value := twoBits (bit b.patternHi k) (bit b.patternLo k)
      palette := (twoBits (bit b.attrHi k) (bit b.attrLo k)).setWidth 3 }
  else Pixel.clear

/-- The 2-bit pixel of slot `i`, its shifters tapped at bit 7 (R202). -/
def slotPixel (p : SpriteLine) (i : Fin 8) : BitVec 2 := twoBits (bit p.shifterHi[i] 7) (bit p.shifterLo[i] 7)

/-- Slot `i` has an opaque pixel at this dot: active, countdown 0, pixel not 0 (R202). -/
def slotWins (p : SpriteLine) (i : Fin 8) : Bool :=
  activeSlot p i && p.slots[i].x == 0 && slotPixel p i != 0

/-- What slot `i` shows when it wins (R202). -/
def slotResult (p : SpriteLine) (i : Fin 8) : FgResult :=
  { pixel := { value := slotPixel p i, palette := 4#3 + (p.slots[i].attr.setWidth 2).setWidth 3 }
    priority := !bit p.slots[i].attr 5
    slotZero := decide (i = 0) }

/-- The first slot of a list that wins (R202). -/
def firstWinner (p : SpriteLine) : List (Fin 8) → FgResult
  | [] => FgResult.none
  | i :: rest => if slotWins p i then slotResult p i else firstWinner p rest

/-- `FgPixel(c)` (R202). -/
def fgPixel (r : Regs) (p : SpriteLine) (c : Nat) : FgResult :=
  if bit r.mask 4 && (bit r.mask 2 || decide (c > 8)) then firstWinner p allSlots else FgResult.none

/-- `Mux` (R203). -/
def mux (bg fg : Pixel) (priority : Bool) : Pixel :=
  if bg.value = 0#2 then (if fg.value = 0#2 then Pixel.clear else fg)
  else if fg.value = 0#2 then bg
  else if priority then fg else bg

/-- `sprite_zero_being_rendered` at a composed dot: "set only by the winning slot 0 when `sprite_zero_hit_possible`"
(R202 with 92_eei_decisions.md D23; log entry 13). -/
def zeroFlag (p : SpriteLine) (fg : FgResult) : Bool := fg.slotZero && p.zeroHitPossible

/-- The condition of `SpriteZeroHit` (R204). -/
def spriteZeroHit (r : Regs) (hitPossible beingRendered : Bool) (c : Nat) (bg fg : Pixel) : Bool :=
  bg.value != 0 && fg.value != 0 && hitPossible && beingRendered && bit r.mask 3 && bit r.mask 4 &&
    !(decide (c ≤ 8) && (!bit r.mask 1 || !bit r.mask 2))

/-- `PaletteResolve` (R205): a direct look-up, six bits; greyscale and emphasis are not applied (R207). -/
def paletteResolve (palette : Vector (BitVec 6) 32) (px : Pixel) : BitVec 6 :=
  paletteGet palette (compositorPaletteAddr px.value px.palette)

/-- The RGB triple of a colour number (R206). -/
def rgbOf (params : Params) (colour : BitVec 6) : Rgb := params.rgbPalette[colour.toNat]'(colour.isLt)

/-- `WritePixel` (R206): red at the offset, then green, then blue. -/
def writePixel (frame : Memory) (o : Nat) (x : Rgb) : Memory :=
  Memory.write (Memory.write (Memory.write frame o x.r) (o + 1) x.g) (o + 2) x.b

/-- The pixel composed at dot `c` from the state (R201 to R203, R208). -/
def composedPixel (s : State) (c : Nat) : Pixel :=
  let fg := fgPixel s.regs s.spr c
  mux (bgPixel s.regs s.bg c) fg.pixel fg.priority

/-- `Compose(s, c)` (R208). -/
def compose (sl : Int) (c : Nat) (s : State) : State :=
  let bg := bgPixel s.regs s.bg c
  let fg := fgPixel s.regs s.spr c
  let flag := zeroFlag s.spr fg
  let s1 := s.setSpr { s.spr with zeroBeingRendered := flag }
  let s2 := if spriteZeroHit s.regs s.spr.zeroHitPossible flag c bg fg.pixel
    then s1.setStatusBit hitBit true else s1
  s2.setFrame (writePixel s2.frame (pixelOffset sl c)
    (rgbOf s.params (paletteResolve s.palette (mux bg fg.pixel fg.priority))))

end Sys2Proof.Machine
end

