-- ==== Sys2Proof/Machine/Frame.lean ====
section
/-! DEFINITION. The frame driver: `TICK` (45_frame_driver.md R215 to R224). -/
namespace Sys2Proof.Machine

/-- The clear of the active sprite line under `PRERENDER_SPRITE_CLEAR`: the count, the flag and the sixteen shifters
(R217, 43_sprites.md R195), and the active slots (92_eei_decisions.md D17; log entry 12). -/
def clearSpriteLine (p : SpriteLine) : SpriteLine :=
  { p with
    slots := Vector.ofFn fun i : Fin 8 => if activeSlot p i then Slot.zero else p.slots[i]
    count := 0
    zeroHitPossible := false
    shifterLo := Vector.replicate 8 0
    shifterHi := Vector.replicate 8 0 }

/-- Step (b), `PreRenderClear` (R217). -/
def preRenderClear (s : State) : State :=
  let s1 := setVblank false ((s.setStatusBit hitBit false).setStatusBit overflowBit false)
  let s2 := s1.setNmi { s1.nmi with suppressNmi := false }
  if s2.params.prerenderSpriteClear then s2.setSpr (clearSpriteLine s2.spr) else s2

/-- Step (d), `VblankStart` (R219). -/
def vblankStart (s : State) : State :=
  let s1 := if s.nmi.suppressVblank then s else setVblank true s
  let s2 := s1.setNmi { s1.nmi with suppressVblank := false }
  if s2.nmi.suppressNmi then s2.setNmi (cancelNmi s2.nmi) else s2

/-- Steps (a) and (b) (R215, R216). -/
def tickHead (s : State) : State :=
  let s1 := s.setNmi (nmiCounterStep s.nmi)
  if s1.seq.scanline = -1 ∧ s1.seq.cycle = 1 then preRenderClear s1 else s1

/-- Step (c) (R218): the background on lines −1..239, then the sprites on lines 0..239 (D16, D22). -/
def tickFetch (sl : Int) (c : Nat) (s : State) : Except Fault State :=
  if -1 ≤ sl ∧ sl ≤ 239 then
    match bgDot sl c s with
    | .error f => .error f
    | .ok t => if 0 ≤ sl then spriteDot sl c t else .ok t
  else .ok s

/-- Step (d) (R219). -/
def tickVblank (sl : Int) (c : Nat) (s : State) : State := if sl = 241 ∧ c = 1 then vblankStart s else s

/-- Step (e) (R220). -/
def tickCompose (sl : Int) (c : Nat) (s : State) : State :=
  if 0 ≤ sl ∧ sl ≤ 239 ∧ 1 ≤ c ∧ c ≤ 256 then compose sl c s else s

/-- Step (f) (R221). -/
def tickClock (sl : Int) (c : Nat) (s : State) : State :=
  if s.regs.renderingEnabled = true ∧ c = 260 ∧ 0 ≤ sl ∧ sl ≤ 239 then cartClockScanline s else s

/-- Step (g) (R222). -/
def tickLatch (sl : Int) (c : Nat) (s : State) : State :=
  if sl = -1 ∧ c = 338 then s.setSeq { s.seq with oddSkipLatch := s.regs.renderingEnabled } else s

/-- Step (i), `Advance` (R224). -/
def advance (q : Sequencer) : Sequencer :=
  if q.cycle + 1 = 341 then
    if q.scanline + 1 = 261 then
      { q with cycle := 0, scanline := -1, frameComplete := true, oddFrame := !q.oddFrame }
    else { q with cycle := 0, scanline := q.scanline + 1 }
  else { q with cycle := q.cycle + 1 }

/-- The condition of step (h) (R223). -/
def skipsDot (q : Sequencer) : Bool :=
  decide (q.scanline = -1) && decide (q.cycle = 339) && q.oddFrame && q.oddSkipLatch

/-- Steps (h) and (i) on the sequencer (R223, R224): the skip does not advance (D40). -/
def nextDot (q : Sequencer) : Sequencer :=
  if skipsDot q then { q with scanline := 0, cycle := 0 } else advance q

/-- Steps (d) to (i) (R215). -/
def tickTail (sl : Int) (c : Nat) (s : State) : State :=
  let t := tickLatch sl c (tickClock sl c (tickCompose sl c (tickVblank sl c s)))
  t.setSeq (nextDot t.seq)

/-- `TICK` (R215): one dot. The position is read once, after step (a); outside the 89,342 positions see
log entry 10. -/
def tickDot (s : State) : Except Fault State :=
  match tickFetch s.seq.scanline s.seq.cycle (tickHead s) with
  | .ok t => .ok (tickTail s.seq.scanline s.seq.cycle t)
  | .error f => .error f

def execTick (s : State) : Host.Outcome State Fault Refusal := outcomeOf (tickDot s)

end Sys2Proof.Machine
end

