-- ==== Sys2Proof/Machine/HostOps.lean ====
section
/-! DEFINITION. `DMA`, `NMIACK`, `FRAMEACK` (41_host_ops.md R150 to R152) and `RESET` (70_reset_and_hazards.md R260). -/
namespace Sys2Proof.Machine

/-- `DMA` (R150): the page is ignored, `oam_addr` kept. A payload of another length is no operation (30_encoding.md
R109 (2), log entry 15). -/
def execDma (_page : Byte) (bytes : List Byte) (s : State) : Host.Outcome State Fault Refusal :=
  if bytes.length = dmaLength then .next (s.setOam (oamBurst s.oam s.regs.oamAddr bytes))
  else .refused .dmaPayloadLength

/-- `NMIACK` (R151): answer the flag and clear it. -/
def execNmiAck (s : State) : Host.Outcome State Fault Refusal :=
  .next ((s.setNmi { s.nmi with flag := false }).setAnswer (.flag s.nmi.flag))

/-- `FRAMEACK` (R152). -/
def execFrameAck (s : State) : Host.Outcome State Fault Refusal :=
  .next (s.setSeq { s.seq with frameComplete := false })

/-- `RESET` step 2: the palette seeded from `POWER_UP_PALETTE`, six bits (R260). -/
def seedPalette (p : Vector Byte 32) : Vector (BitVec 6) 32 :=
  Vector.ofFn fun i : Fin 32 => p[i].setWidth 6

/-- `RESET` step 4: what the mapper query establishes (R260, D26). -/
def mirrorFromQuery (s : State) : MirrorState :=
  match cartMirroringAnswer s with
  | some m => { dynamic := true, cached := m }
  | none => { dynamic := false, cached := s.params.staticMirroring }

/-- The state after `RESET` (R260): the memories, the cartridge and the parameters are kept (R261, 10_state.md R37; log
entry 9). -/
def resetState (s : State) : State :=
  let s1 := ((((s.setRegs Regs.zero).setBg BgPipe.zero).setSpr SpriteLine.zero).setEval SpriteEval.zero).setNmi
    NmiState.zero
  let s2 := (s1.setPalette (seedPalette s.params.powerUpPalette)).setSeq Sequencer.start
  (cartMirroringCall s2).setMir (mirrorFromQuery s2)

def execReset (s : State) : Host.Outcome State Fault Refusal := .next (resetState s)

end Sys2Proof.Machine
end

