-- ==== Sys2Proof/Machine/Dispatch.lean ====
section
/-! DEFINITION. One arm per operation (00_scope.md R6). -/
namespace Sys2Proof.Machine

def exec (i : Instr) (s : State) : Host.Outcome State Fault Refusal :=
  match i with
  | .wPpuCtrl d => Sys2Proof.Machine.execWPpuCtrl d s
  | .wPpuMask d => Sys2Proof.Machine.execWPpuMask d s
  | .wPpuStatus d => Sys2Proof.Machine.execWPpuStatus d s
  | .wOamAddr d => Sys2Proof.Machine.execWOamAddr d s
  | .wOamData d => Sys2Proof.Machine.execWOamData d s
  | .wPpuScroll d => Sys2Proof.Machine.execWPpuScroll d s
  | .wPpuAddr d => Sys2Proof.Machine.execWPpuAddr d s
  | .wPpuData d => Sys2Proof.Machine.execWPpuData d s
  | .rPpuCtrl => Sys2Proof.Machine.execRPpuCtrl s
  | .rPpuMask => Sys2Proof.Machine.execRPpuMask s
  | .rPpuStatus => Sys2Proof.Machine.execRPpuStatus s
  | .rOamAddr => Sys2Proof.Machine.execROamAddr s
  | .rOamData => Sys2Proof.Machine.execROamData s
  | .rPpuScroll => Sys2Proof.Machine.execRPpuScroll s
  | .rPpuAddr => Sys2Proof.Machine.execRPpuAddr s
  | .rPpuData => Sys2Proof.Machine.execRPpuData s
  | .tick => Sys2Proof.Machine.execTick s
  | .reset => Sys2Proof.Machine.execReset s
  | .nmiAck => Sys2Proof.Machine.execNmiAck s
  | .dma page bytes => Sys2Proof.Machine.execDma page bytes s
  | .frameAck => Sys2Proof.Machine.execFrameAck s

end Sys2Proof.Machine
end

