-- ==== Sys2Proof/Machine/Step.lean ====
section
/-! DEFINITION. One step of the machine: the first pending stimulus is taken, decoded and performed (00_scope.md R6,
R7). -/
namespace Sys2Proof.Machine

/-- With nothing pending the PPU does not advance and keeps all state (60_exceptions.md R251). A stimulus that names no
operation is refused (30_encoding.md R108). -/
def step (s : State) : Host.Outcome State Fault Refusal :=
  match fetchStimulus s with
  | none => .next s
  | some (st, t) =>
    match decode st with
    | .ok i => exec i t
    | .error e => .refused (.undefinedStimulus e)

/-- `s` with the operation whose bits are `w` issued first, before anything pending (log entry 1). -/
def State.withFetchWord (s : State) (nbits w : Nat) : State :=
  { s with stimuli := stimulusOfBits nbits w :: s.stimuli }

end Sys2Proof.Machine
end

