-- ==== Sys2Proof/Safety.lean ====
section
/-! DEFINITION. What a safe run is: the invariant of 10_state.md R38, and the cartridges that never fail. -/
namespace Sys2Proof.Machine

/-- `(scanline, cycle)` is one of the 89,342 positions (10_state.md R31, R38 (a)). -/
def Sequencer.InRange (q : Sequencer) : Prop := -1 ≤ q.scanline ∧ q.scanline ≤ 260 ∧ q.cycle ≤ 340

/-- The evaluation cursors (10_state.md R38 (h), (i); 93_implementation_defined.md U18). -/
def SpriteEval.InRange (e : SpriteEval) : Prop :=
  e.count ≤ 8 ∧ e.n ≤ 64 ∧ (e.n = 64 → e.done = true) ∧ (e.overflowMode = false → e.m ≠ 0#2 → e.count < 8)

/-- The NMI counters (10_state.md R38 (j), (k)). -/
def NmiState.InRange (n : NmiState) : Prop :=
  n.delay ≤ Config.nmiDelay ∧ n.hold ≤ Config.nmiHold ∧ (0 < n.hold → 0 < n.delay)

/-- The copies the PPU keeps of register bits (10_state.md R38 (b), (c), (d)), and the edge detector, which every
`NmiChange` sets to the line (60_exceptions.md R237). -/
def State.CopiesAgree (s : State) : Prop :=
  s.regs.renderingEnabled = renderingOf s.regs.mask ∧ s.nmi.output = bit s.regs.ctrl 7 ∧
    s.nmi.occurred = bit s.regs.status vblankBit ∧ s.nmi.previous = nmiLine s.nmi

/-- The CHR RAM of the test cartridge has its canonical form. -/
def Cart.memoryWf (c : Cart) : Bool :=
  match c with
  | .testT0 board => Memory.wf chrSize board.chr
  | .mapper _ => true

/-- The memories have their canonical form and their size (log entry 7). -/
def State.MemoriesWf (s : State) : Prop :=
  Memory.wf nametableSize s.nametable = true ∧ Memory.wf oamSize s.oam = true ∧
    Memory.wf frameSize s.frame = true ∧ s.cart.memoryWf = true

/-- 10_state.md R38: what holds after `RESET` and after every operation. The ranges of (f), (g) and of `eval_oam_m` are
the types of the fields. -/
structure Inv (s : State) : Prop where
  position : s.seq.InRange
  copies : s.CopiesAgree
  statusLow : s.regs.status &&& 0x1F#8 = 0#8
  evalRange : s.eval.InRange
  spriteCount : s.spr.count ≤ 8
  nmiRange : s.nmi.InRange
  memories : s.MemoriesWf

/-- The cartridge answers every `ppu_read` (92_eei_decisions.md D30: "a cartridge that never faults"). -/
def Cart.NeverFails (c : Cart) : Prop :=
  match c with
  | .testT0 _ => True
  | .mapper id => ∀ history a, (Config.mapperRead id history a).isSome = true

/-- `TICK*k` (30_encoding.md R110), stopping at the first fault. -/
def runTicks : Nat → State → Host.Outcome State Fault Refusal
  | 0, s => .next s
  | k + 1, s =>
    match exec .tick s with
    | .next t => runTicks k t
    | .fault f => .fault f
    | .refused r => .refused r

/-- A list of operations performed in order, stopping at the first that does not answer a next state. -/
def runOps : List Instr → State → Host.Outcome State Fault Refusal
  | [], s => .next s
  | i :: rest, s =>
    match exec i s with
    | .next t => runOps rest t
    | .fault f => .fault f
    | .refused r => .refused r

end Sys2Proof.Machine
end

