-- ==== Sys2Proof/Certificates/Slice0/Obligations.lean ====
section
/-! DEFINITION. The statements for the provers. First the words they are written in, each read off the spec in numbers
and bit fields rather than in the model's expressions, then the statements. -/

namespace Sys2Proof.Spec
open Sys2Proof.Machine

/-! ## The words of the statements -/

/-- One row of the operation table (30_encoding.md R107): its mask, its match, how many payload bytes follow (R109), and
the operation of a word with data byte `d` and payload `p`. -/
structure OpRow where
  mask : Word16
  pat : Word16
  payload : Nat
  build : Byte → List Byte → Instr

/-- The table of 30_encoding.md R107, row for row. -/
def opTable : List OpRow :=
  [⟨0xFF00#16, 0x0000#16, 0, fun d _ => .wPpuCtrl d⟩,
   ⟨0xFF00#16, 0x0100#16, 0, fun d _ => .wPpuMask d⟩,
   ⟨0xFF00#16, 0x0200#16, 0, fun d _ => .wPpuStatus d⟩,
   ⟨0xFF00#16, 0x0300#16, 0, fun d _ => .wOamAddr d⟩,
   ⟨0xFF00#16, 0x0400#16, 0, fun d _ => .wOamData d⟩,
   ⟨0xFF00#16, 0x0500#16, 0, fun d _ => .wPpuScroll d⟩,
   ⟨0xFF00#16, 0x0600#16, 0, fun d _ => .wPpuAddr d⟩,
   ⟨0xFF00#16, 0x0700#16, 0, fun d _ => .wPpuData d⟩,
   ⟨0xFF00#16, 0x0800#16, 0, fun _ _ => .rPpuCtrl⟩,
   ⟨0xFF00#16, 0x0900#16, 0, fun _ _ => .rPpuMask⟩,
   ⟨0xFF00#16, 0x0A00#16, 0, fun _ _ => .rPpuStatus⟩] ++
  [⟨0xFF00#16, 0x0B00#16, 0, fun _ _ => .rOamAddr⟩,
   ⟨0xFF00#16, 0x0C00#16, 0, fun _ _ => .rOamData⟩,
   ⟨0xFF00#16, 0x0D00#16, 0, fun _ _ => .rPpuScroll⟩,
   ⟨0xFF00#16, 0x0E00#16, 0, fun _ _ => .rPpuAddr⟩,
   ⟨0xFF00#16, 0x0F00#16, 0, fun _ _ => .rPpuData⟩,
   ⟨0xFFFF#16, 0x1000#16, 0, fun _ _ => .tick⟩,
   ⟨0xFFFF#16, 0x2000#16, 0, fun _ _ => .reset⟩,
   ⟨0xFFFF#16, 0x3000#16, 0, fun _ _ => .nmiAck⟩,
   ⟨0xFF00#16, 0x4000#16, 256, fun d p => .dma d p⟩,
   ⟨0xFFFF#16, 0x5000#16, 0, fun _ _ => .frameAck⟩]

/-- The sequencer stands at dot `(sl, c)`: the next `TICK` will process it (45_frame_driver.md R228). -/
abbrev At (s : State) (sl : Int) (c : Nat) : Prop := s.seq.scanline = sl ∧ s.seq.cycle = c

/-- The next dot lies on a visible line. -/
abbrev OnVisibleLine (s : State) : Prop := 0 ≤ s.seq.scanline ∧ s.seq.scanline ≤ 239

/-- The next dot lies on a line with background work, −1..239 (42_background_pipeline.md R160). -/
abbrev OnFetchLine (s : State) : Prop := -1 ≤ s.seq.scanline ∧ s.seq.scanline ≤ 239

/-- The next dot is composed: lines 0..239, dots 1..256 (44_compositor.md R200). -/
abbrev OnComposedDot (s : State) : Prop := OnVisibleLine s ∧ 1 ≤ s.seq.cycle ∧ s.seq.cycle ≤ 256

/-- The active window of the background pipeline, dots 2–257 and 321–337 (42_background_pipeline.md R160). -/
abbrev InWindow (c : Nat) : Prop := (2 ≤ c ∧ c ≤ 257) ∨ (321 ≤ c ∧ c ≤ 337)

/-- `v` after a `$2007` access (40_register_access.md R137). -/
def steppedV (s : State) : VramAddr := BitVec.ofNat 15 (s.regs.v.toNat + if bit s.regs.ctrl 2 then 32 else 1)

/-- `v & $3FFF` as a number (20_memory.md R61). -/
def busNumber (v : VramAddr) : Nat := v.toNat % 0x4000

/-- The physical page of logical nametable `k` under a mode (20_memory.md R66), as the table of that rule gives it. -/
def physicalPage (m : Mirroring) (k : Nat) : Nat :=
  match m with
  | .horizontal => k / 2
  | .vertical => k % 2
  | .single0 => 0
  | .single1 => 1
  | .fourScreen => k

/-- The byte of `nametable` that bus address `a` of `$2000`–`$3EFF` reaches: page × 1024 + offset (20_memory.md R65). -/
def nametableByte (m : Mirroring) (a : Nat) : Nat := physicalPage m (a / 1024 % 4) * 1024 + a % 1024

/-- The palette entry that bus address `a` of `$3F00`–`$3FFF` reaches (20_memory.md R68): multiples of 4 lose bit 4. -/
def paletteIndex (a : Nat) : Nat := if a % 4 = 0 then a % 16 else a % 32

/-- Palette entry `i` as a number; 0 past the end. -/
def paletteEntry (p : Vector (BitVec 6) 32) (i : Nat) : Nat := if h : i < 32 then (p[i]).toNat else 0

/-- `v` from its fields fine-Y, vertical NT, horizontal NT, coarse-Y, coarse-X (10_state.md R15). -/
def vOf (fy nty ntx cy cx : Nat) : Nat := fy * 4096 + nty * 2048 + ntx * 1024 + cy * 32 + cx

/-- The X increment on fields (42_background_pipeline.md R168). -/
def scrollX (v : Nat) : Nat :=
  if v % 32 = 31 then vOf (v / 4096) (v / 2048 % 2) (1 - v / 1024 % 2) (v / 32 % 32) 0
  else vOf (v / 4096) (v / 2048 % 2) (v / 1024 % 2) (v / 32 % 32) (v % 32 + 1)

/-- The Y increment on fields (42_background_pipeline.md R169). -/
def scrollY (v : Nat) : Nat :=
  let nty := v / 2048 % 2
  let ntx := v / 1024 % 2
  let cy := v / 32 % 32
  let cx := v % 32
  if v / 4096 < 7 then vOf (v / 4096 + 1) nty ntx cy cx
  else if cy = 29 then vOf 0 (1 - nty) ntx 0 cx
  else if cy = 31 then vOf 0 nty ntx 0 cx
  else vOf 0 nty ntx (cy + 1) cx

/-- A background shifter after one dot (42_background_pipeline.md R161, R167): shifted if `shift`, then its low byte
replaced by `low` if `load`. -/
def shifterAfter (shift load : Prop) [Decidable shift] [Decidable load] (x low : Nat) : Nat :=
  let y := if shift then x * 2 % 65536 else x
  if load then y / 256 * 256 + low else y

/-- The in-range test (43_sprites.md R188): the difference is an integer. -/
abbrev SpriteOnLine (ctrl : Byte) (sl : Int) (y : Byte) : Prop :=
  0 ≤ sl - (y.toNat : Int) ∧ sl - (y.toNat : Int) < (if bit ctrl 5 then 16 else 8)

/-- Byte `k` of a slot, in the order y, tile, attr, x (30_encoding.md R99). -/
def slotByte (sl : Slot) (k : Nat) : Byte :=
  match k with
  | 0 => sl.y
  | 1 => sl.tile
  | 2 => sl.attr
  | _ => sl.x

/-- The OAM entry of sprite `k` (30_encoding.md R99). -/
def oamEntry (oam : Memory) (k : Nat) : Slot :=
  { y := Memory.read oam (4 * k), tile := Memory.read oam (4 * k + 1), attr := Memory.read oam (4 * k + 2),
    x := Memory.read oam (4 * k + 3) }

/-- The NMI counters and flag after step (a) of a tick (60_exceptions.md R239): the hold window first, in which a low
line cancels, then the delay, whatever the line (decision D8). -/
def nmiStepped (n : NmiState) : NmiState :=
  { n with
    delay := if n.delay = 0 then 0 else if n.hold = 0 then n.delay - 1
      else if n.output = true ∧ n.occurred = true then n.delay else 0
    hold := if n.delay = 0 ∨ n.hold = 0 then n.hold
      else if n.output = true ∧ n.occurred = true then n.hold - 1 else 0
    flag := n.flag || decide (n.delay = 1 ∧ n.hold = 0) }

/-- The state when the cartridge has been asked for the mirroring mode, if it is (20_memory.md R67): the call is
recorded, and an answer that is a mode is kept. -/
def queried (s : State) : State :=
  if s.mir.dynamic = true then
    let answer := match s.cart with
      | .testT0 board => board.mode
      | .mapper id => Config.mapperMirroring id s.cartLog
    { s with mir := { s.mir with cached := answer.getD s.mir.cached }, cartLog := .mirroring :: s.cartLog }
  else s

/-- One read of bus address `a` (20_memory.md R62, R64 to R68): its byte and the state after it; none where the
cartridge fails. -/
def busRead (s : State) (a : Nat) : Option (Byte × State) :=
  if a < 0x2000 then
    let answer := match s.cart with
      | .testT0 board => some (Memory.read board.chr a)
      | .mapper id => Config.mapperRead id s.cartLog (BitVec.ofNat 13 a)
    answer.map fun b => (b, { s with cartLog := .ppuRead (BitVec.ofNat 13 a) :: s.cartLog })
  else if a < 0x3F00 then
    some (Memory.read s.nametable (nametableByte (queried s).mir.cached a), queried s)
  else some (BitVec.ofNat 8 (paletteEntry s.palette (paletteIndex a)), s)

/-- Reads of bus addresses in order: the bytes and the state after them; none where one fails. -/
def busReads (s : State) : List Nat → Option (List Byte × State)
  | [] => some ([], s)
  | a :: rest =>
    match busRead s a with
    | none => none
    | some (b, q) =>
      match busReads q rest with
      | none => none
      | some (bs, u) => some (b :: bs, u)

/-- The addresses of the background fetches, by fields of `v` (30_encoding.md R100 to R102). -/
def nametableFetch (s : State) : Nat := 0x2000 + s.regs.v.toNat % 4096
def attributeFetch (s : State) : Nat :=
  0x23C0 + s.regs.v.toNat / 1024 % 4 * 1024 + s.regs.v.toNat / 128 % 8 * 8 + s.regs.v.toNat / 4 % 8
def patternFetch (s : State) : Nat :=
  (if bit s.regs.ctrl 4 then 4096 else 0) + s.bg.nextTileId.toNat * 16 + s.regs.v.toNat / 4096

/-- The address the background reads at the next dot (42_background_pipeline.md R160, R162 to R165, R174): a fetch of
the window, the dummy fetch of dots 338 and 340, or none. -/
def backgroundReads (s : State) : List Nat :=
  if InWindow s.seq.cycle then
    if s.seq.cycle % 8 = 1 then [nametableFetch s]
    else if s.seq.cycle % 8 = 3 then [attributeFetch s]
    else if s.seq.cycle % 8 = 5 then [patternFetch s]
    else if s.seq.cycle % 8 = 7 then [patternFetch s + 8]
    else []
  else if s.seq.cycle = 338 ∨ s.seq.cycle = 340 then [nametableFetch s]
  else []

/-- The pattern address of a slot on line `sl`, an integer (43_sprites.md R190 to R192); a slot that is not on the line
may give a row outside the sprite. -/
def slotAddress (ctrl : Byte) (sl : Int) (slot : Slot) : Int :=
  let h : Int := if bit ctrl 5 then 16 else 8
  let row := if bit slot.attr 7 then h - 1 - (sl - slot.y.toNat) else sl - slot.y.toNat
  if bit ctrl 5 then
    (slot.tile.toNat % 2 : Nat) * 4096 +
      (if row > 7 then (slot.tile.toNat / 2 * 2 + 1 : Nat) * 16 + (row - 8) else (slot.tile.toNat / 2 * 2 : Nat) * 16 + row)
  else (if bit ctrl 3 then 4096 else 0) + (slot.tile.toNat : Int) * 16 + row

/-- The two reads of a slot at dot 340, low plane first, addresses modulo `$4000`. -/
def slotReads (s : State) (slot : Slot) : List Nat :=
  let a := slotAddress s.regs.ctrl s.seq.scanline slot
  [(a % 0x4000).toNat, ((a + 8) % 0x4000).toNat]

/-- Every bus read of the next tick, in order: the background's, then at dot 340 of a visible line those of the active
slots (45_frame_driver.md R218). -/
def tickReads (s : State) : List Nat :=
  if OnFetchLine s then
    backgroundReads s ++
      (if OnVisibleLine s ∧ s.seq.cycle = 340 then (s.spr.slots.toList.take s.spr.count).flatMap (slotReads s) else [])
  else []

/-- The sprites in range of line `sl`, in OAM order. -/
def spritesOnLine (ctrl : Byte) (sl : Int) (oam : Memory) : List Nat :=
  (List.range 64).filter fun k => inRange ctrl sl (oamEntry oam k).y

/-- The pattern address of a row in range, by fields (43_sprites.md R191, R192; 30_encoding.md R103). `h` is the height,
`row` the row after flip-V. -/
def spritePattern (ctrl tile : Byte) (row : Nat) : Nat :=
  if bit ctrl 5 then tile.toNat % 2 * 4096 + (tile.toNat / 2 * 2 + row / 8) * 16 + row % 8
  else (if bit ctrl 3 then 4096 else 0) + tile.toNat * 16 + row

/-- The row of a sprite with Y byte `y` on line `sl`, flip-V applied (43_sprites.md R190). -/
def rowOnLine (ctrl : Byte) (sl : Int) (y attr : Byte) : Nat :=
  let row := (sl - (y.toNat : Int)).toNat
  if bit attr 7 then (if bit ctrl 5 then 15 - row else 7 - row) else row

/-- `out` is the plane `b` as it is stored: bit-reversed under flip-H (43_sprites.md R190, R193). -/
def StoredPlane (attr b out : Byte) : Prop :=
  ∀ k < 8, bit out k = if bit attr 6 then bit b (7 - k) else bit b k

/-- The bit of a shifter tapped with `fine_x` (44_compositor.md R201). -/
def tap (x : BitVec 16) (fineX : BitVec 3) : Nat := x.toNat / 2 ^ (15 - fineX.toNat) % 2

/-- The background pixel and palette of dot `c` (44_compositor.md R201). -/
def bgAt (s : State) (c : Nat) : Nat × Nat :=
  if bit s.regs.mask 3 = true ∧ (bit s.regs.mask 1 = true ∨ c > 8) then
    (2 * tap s.bg.patternHi s.regs.fineX + tap s.bg.patternLo s.regs.fineX,
     2 * tap s.bg.attrHi s.regs.fineX + tap s.bg.attrLo s.regs.fineX)
  else (0, 0)

/-- The pixel of slot `i` (44_compositor.md R202). -/
def slotValue (p : SpriteLine) (i : Fin 8) : Nat :=
  (p.shifterLo[i]).toNat / 128 + 2 * ((p.shifterHi[i]).toNat / 128)

/-- The winning slot of dot `c`: the first active one with countdown 0 and an opaque pixel (44_compositor.md R202). -/
def winner (s : State) (c : Nat) : Option (Fin 8) :=
  if bit s.regs.mask 4 = true ∧ (bit s.regs.mask 2 = true ∨ c > 8) then
    (List.finRange 8).find? fun i => decide (i.val < s.spr.count) && decide ((s.spr.slots[i]).x.toNat = 0) &&
      decide (slotValue s.spr i ≠ 0)
  else none

/-- The condition of sprite-zero hit at the dot that the tick from `s` to `t` composed (44_compositor.md R204). -/
def HitAt (s t : State) : Prop :=
  (bgAt t s.seq.cycle).1 ≠ 0 ∧ winner t s.seq.cycle = some 0 ∧ s.spr.zeroHitPossible = true ∧
    bit s.regs.mask 3 = true ∧ bit s.regs.mask 4 = true ∧
    ¬ (s.seq.cycle ≤ 8 ∧ (bit s.regs.mask 1 = false ∨ bit s.regs.mask 2 = false))

/-- The next dot is an even one of the evaluation window at which evaluation decides (43_sprites.md R182 to R186). -/
def Decides (s : State) : Prop :=
  OnVisibleLine s ∧ 65 ≤ s.seq.cycle ∧ s.seq.cycle ≤ 256 ∧ s.seq.cycle % 2 = 0 ∧ s.regs.renderingEnabled = true ∧
    s.eval.done = false

/-- The palette entry shown at dot `c` (44_compositor.md R203, R205): 0 where nothing is opaque, else palette × 4 +
pixel, a sprite's palette being its attribute's low bits + 4. -/
def shownEntry (s : State) (c : Nat) : Nat :=
  let bg := bgAt s c
  match winner s c with
  | none => if bg.1 = 0 then 0 else bg.2 * 4 + bg.1
  | some i =>
    if bg.1 = 0 ∨ bit (s.spr.slots[i]).attr 5 = false then
      ((s.spr.slots[i]).attr.toNat % 4 + 4) * 4 + slotValue s.spr i
    else bg.2 * 4 + bg.1

/-- The three bytes of `frame` at offset `o` are the RGB entry of colour `k` (44_compositor.md R206). -/
def PixelIs (frame : Memory) (o : Nat) (params : Params) (k : Nat) : Prop :=
  ∀ h : k < 64, Memory.read frame o = (params.rgbPalette[k]).r ∧ Memory.read frame (o + 1) = (params.rgbPalette[k]).g ∧
    Memory.read frame (o + 2) = (params.rgbPalette[k]).b

/-- Two states that differ at most in register bits the spec gives no function: `ctrl[6]`, `ctrl[1:0]` after its
write, `mask[0]`, `mask[7:5]` (10_state.md R11, R12; 44_compositor.md R207). -/
def SameUsedBits (s t : State) : Prop :=
  ∃ c m : Byte, t = { s with regs := { s.regs with ctrl := c, mask := m } } ∧
    c &&& 0xBC#8 = s.regs.ctrl &&& 0xBC#8 ∧ m &&& 0x1E#8 = s.regs.mask &&& 0x1E#8

/-- Two outcomes of one kind whose next states are related. -/
def OutcomesAgree (r : State → State → Prop) (a b : Host.Outcome State Fault Refusal) : Prop :=
  match a, b with
  | .next s, .next t => r s t
  | .fault f, .fault g => f = g
  | .refused f, .refused g => f = g
  | _, _ => False

/-- `suppress_vblank` is held only while the sequencer stands at (241, 1) (92_eei_decisions.md D6). -/
def SuppressOnlyAtVblank (s : State) : Prop := s.nmi.suppressVblank = true → At s 241 1

end Sys2Proof.Spec

open Sys2Proof Sys2Proof.Machine Sys2Proof.Spec

/-! ## Encoding and the step -/

/-- Every well-formed operation is the decoding of its encoding: no operand bit is dropped. -/
def Obligations.EncodedOperationsDecodeToThemselves : Prop :=
  ∀ i : Instr, i.wellFormed = true → decode (encode i) = .ok i

/-- The decoder accepts a word and payload exactly when a row of the table of 30_encoding.md R107 matches, and then
gives that row's operation (the table is the spec's own decision D1). -/
def Obligations.DecoderFollowsTheOperationTable : Prop :=
  ∀ (w : Word16) (p : List Byte) (i : Instr),
    decode { word := w, payload := p } = .ok i ↔
      ∃ row ∈ opTable, w &&& row.mask = row.pat ∧ p.length = row.payload ∧ i = row.build (w.setWidth 8) p

/-- Words written out from 30_encoding.md (V-E1 to V-E9). -/
def Obligations.WrittenOutWordsDecode : Prop :=
  decode { word := 0x0080#16, payload := [] } = .ok (.wPpuCtrl 0x80) ∧
  decode { word := 0x011E#16, payload := [] } = .ok (.wPpuMask 0x1E) ∧
  decode { word := 0x04F0#16, payload := [] } = .ok (.wOamData 0xF0) ∧
  decode { word := 0x0A5C#16, payload := [] } = .ok .rPpuStatus ∧
  decode { word := 0x1000#16, payload := [] } = .ok .tick ∧
  decode { word := 0x5000#16, payload := [] } = .ok .frameAck ∧
  decode { word := 0x1001#16, payload := [] } = .error .nonZeroFixedBits ∧
  decode { word := 0x6000#16, payload := [] } = .error .reservedKind

/-- A step takes the first pending stimulus and is `exec` of the operation it decodes to; with nothing pending the PPU
keeps all state (60_exceptions.md R251), and a stimulus that names no operation is refused. The queue is the model's
(log entry 1). -/
def Obligations.StepPerformsTheDecodedOperation : Prop :=
  ∀ s : State,
    (s.stimuli = [] → step s = .next s) ∧
    ∀ (st : Stimulus) (rest : List Stimulus), s.stimuli = st :: rest →
      (∀ i, decode st = .ok i → i.wellFormed = true ∧ step s = exec i { s with stimuli := rest }) ∧
      (∀ e, decode st = .error e → step s = .refused (.undefinedStimulus e))

/-! ## Bus writes -/

/-- `W.PPUCTRL`: `ctrl`, `t[11:10]`, `nmi_output`, and the NMI edge. -/
def Obligations.ControlWriteStoresAndDrivesNmi : Prop :=
  ∀ (s : State) (d : Byte), ∃ t : VramAddr,
    t.toNat / 4096 = s.regs.t.toNat / 4096 ∧ t.toNat / 1024 % 4 = d.toNat % 4 ∧
    t.toNat % 1024 = s.regs.t.toNat % 1024 ∧
    exec (.wPpuCtrl d) s = .next { s with
      regs := { s.regs with ctrl := d, t := t }
      nmi := { s.nmi with
        output := bit d 7
        previous := bit d 7 && s.nmi.occurred
        delay := if bit d 7 && s.nmi.occurred && !s.nmi.previous then 14 else s.nmi.delay
        hold := if bit d 7 && s.nmi.occurred && !s.nmi.previous then 2 else s.nmi.hold } }

/-- `W.PPUMASK`: rendering is enabled exactly when bit 3 or bit 4 is written. -/
def Obligations.MaskWriteSetsRenderingEnabled : Prop :=
  ∀ (s : State) (d : Byte),
    exec (.wPpuMask d) s = .next { s with
      regs := { s.regs with mask := d, renderingEnabled := bit d 3 || bit d 4 } }

/-- `W.PPUSTATUS` changes nothing, the vblank flag and the toggle among it (decision D24). -/
def Obligations.StatusWriteChangesNothing : Prop :=
  ∀ (s : State) (d : Byte),
    decode { word := 0x0200#16 ||| d.setWidth 16, payload := [] } = .ok (.wPpuStatus d) ∧
    exec (.wPpuStatus d) s = .next s

/-- R124: `W.OAMADDR` stores its byte, and no `TICK` ever changes `oam_addr`. -/
def Obligations.OamAddressWrittenOnlyByTheCpu : Prop :=
  (∀ (s : State) (d : Byte),
    decode { word := 0x0300#16 ||| d.setWidth 16, payload := [] } = .ok (.wOamAddr d) ∧
    exec (.wOamAddr d) s = .next { s with regs := { s.regs with oamAddr := d } }) ∧
  ∀ s t : State, exec .tick s = .next t → t.regs.oamAddr = s.regs.oamAddr

/-- `W.OAMDATA`: the byte lands at `oam[oam_addr]`, every other byte of OAM is as before, the address advances modulo
256. -/
def Obligations.OamDataWriteStoresAndAdvances : Prop :=
  ∀ (s : State) (d : Byte), Memory.wf oamSize s.oam = true → ∃ m : Memory,
    exec (.wOamData d) s = .next { s with
      oam := m
      regs := { s.regs with oamAddr := BitVec.ofNat 8 ((s.regs.oamAddr.toNat + 1) % 256) } } ∧
    Memory.read m s.regs.oamAddr.toNat = d ∧
    ∀ a, a ≠ s.regs.oamAddr.toNat → Memory.read m a = Memory.read s.oam a

/-- R97: the first write gives coarse-X and `fine_x`, the second coarse-Y and fine-Y; everything else is kept. -/
def Obligations.ScrollWritePairAssemblesT : Prop :=
  ∀ (s : State) (d : Byte),
    (s.regs.addressLatch = false → ∃ t : VramAddr,
      t.toNat % 32 = d.toNat / 8 ∧ t.toNat / 32 = s.regs.t.toNat / 32 ∧
      exec (.wPpuScroll d) s = .next { s with
        regs := { s.regs with t := t, fineX := BitVec.ofNat 3 (d.toNat % 8), addressLatch := true } }) ∧
    (s.regs.addressLatch = true → ∃ t : VramAddr,
      t.toNat / 32 % 32 = d.toNat / 8 ∧ t.toNat / 4096 = d.toNat % 8 ∧
      t.toNat % 32 = s.regs.t.toNat % 32 ∧ t.toNat / 1024 % 4 = s.regs.t.toNat / 1024 % 4 ∧
      exec (.wPpuScroll d) s = .next { s with regs := { s.regs with t := t, addressLatch := false } })

/-- R98: the first write gives `t[13:8]` and clears `t[14]`, the second `t[7:0]` and copies `t` to `v`. -/
def Obligations.AddressWritePairAssemblesT : Prop :=
  ∀ (s : State) (d : Byte),
    (s.regs.addressLatch = false → ∃ t : VramAddr,
      t.toNat / 256 = d.toNat % 64 ∧ t.toNat % 256 = s.regs.t.toNat % 256 ∧
      exec (.wPpuAddr d) s = .next { s with regs := { s.regs with t := t, addressLatch := true } }) ∧
    (s.regs.addressLatch = true → ∃ t : VramAddr,
      t.toNat = s.regs.t.toNat / 256 * 256 + d.toNat ∧
      exec (.wPpuAddr d) s = .next { s with regs := { s.regs with t := t, v := t, addressLatch := false } })

/-- R137: after a `$2007` access `v` has advanced by 1 or by 32, modulo `$8000`, rendering or not. -/
def Obligations.DataAccessStepsVramAddress : Prop :=
  ∀ s : State,
    (∀ d, ∃ t, exec (.wPpuData d) s = .next t ∧
      t.regs.v.toNat = (s.regs.v.toNat + if bit s.regs.ctrl 2 then 32 else 1) % 0x8000) ∧
    (∀ t, exec .rPpuData s = .next t →
      t.regs.v.toNat = (s.regs.v.toNat + if bit s.regs.ctrl 2 then 32 else 1) % 0x8000)

/-- `W.PPUDATA`, region by region: what is stored where, and that every other byte is as before. The address is
`v & $3FFF`; under dynamic mirroring a nametable write queries the cartridge first. -/
def Obligations.DataWriteReachesTheAddressedSpace : Prop :=
  ∀ (s : State) (d : Byte),
    (busNumber s.regs.v < 0x2000 → ∀ board, s.cart = .testT0 board → Memory.wf chrSize board.chr = true → ∃ m,
      Memory.read m (busNumber s.regs.v) = d ∧
      (∀ a, a ≠ busNumber s.regs.v → Memory.read m a = Memory.read board.chr a) ∧
      exec (.wPpuData d) s = .next { s with
        regs := { s.regs with v := steppedV s }
        cart := .testT0 { board with chr := m }
        cartLog := .ppuWrite (BitVec.ofNat 13 (busNumber s.regs.v)) d :: s.cartLog }) ∧
    (busNumber s.regs.v < 0x2000 → ∀ id, s.cart = .mapper id →
      exec (.wPpuData d) s = .next { s with
        regs := { s.regs with v := steppedV s }
        cartLog := .ppuWrite (BitVec.ofNat 13 (busNumber s.regs.v)) d :: s.cartLog }) ∧
    (0x2000 ≤ busNumber s.regs.v → busNumber s.regs.v < 0x3F00 → Memory.wf nametableSize s.nametable = true →
      ∃ m, Memory.read m (nametableByte (queryMirroring s).mir.cached (busNumber s.regs.v)) = d ∧
      (∀ a, a ≠ nametableByte (queryMirroring s).mir.cached (busNumber s.regs.v) →
        Memory.read m a = Memory.read s.nametable a) ∧
      exec (.wPpuData d) s = .next { queryMirroring s with
        regs := { s.regs with v := steppedV s }
        nametable := m }) ∧
    (0x3F00 ≤ busNumber s.regs.v → ∃ p,
      (∀ i < 32, paletteEntry p i =
        if i = paletteIndex (busNumber s.regs.v) then d.toNat % 64 else paletteEntry s.palette i) ∧
      exec (.wPpuData d) s = .next { s with
        regs := { s.regs with v := steppedV s }
        palette := p })

/-! ## Bus reads -/

/-- The five write-only registers read as 0 and nothing else changes; the data byte of the word is ignored. -/
def Obligations.WriteOnlyRegistersReadZero : Prop :=
  (∀ (i : Instr) (s : State), i ∈ [Instr.rPpuCtrl, .rPpuMask, .rOamAddr, .rPpuScroll, .rPpuAddr] →
    exec i s = .next { s with answer := .byte 0 }) ∧
  ∀ d : Byte,
    decode { word := 0x0800#16 ||| d.setWidth 16, payload := [] } = .ok .rPpuCtrl ∧
    decode { word := 0x0900#16 ||| d.setWidth 16, payload := [] } = .ok .rPpuMask ∧
    decode { word := 0x0B00#16 ||| d.setWidth 16, payload := [] } = .ok .rOamAddr ∧
    decode { word := 0x0D00#16 ||| d.setWidth 16, payload := [] } = .ok .rPpuScroll ∧
    decode { word := 0x0E00#16 ||| d.setWidth 16, payload := [] } = .ok .rPpuAddr

/-- `R.PPUSTATUS`: bits 7:5 of `status` over bits 4:0 of the read buffer, taken first; then vblank and the toggle are
cleared, the race flags set and a pending NMI cancelled by position. -/
def Obligations.StatusReadAnswersAndClears : Prop :=
  ∀ s : State, ∃ (r st : Byte) (n : NmiState),
    exec .rPpuStatus s = .next { s with
      regs := { s.regs with status := st, addressLatch := false }, nmi := n, answer := .byte r } ∧
    r.toNat = s.regs.status.toNat / 32 * 32 + s.regs.ppuDataBuffer.toNat % 32 ∧
    st.toNat = s.regs.status.toNat % 128 ∧
    n.occurred = false ∧ n.previous = false ∧ n.output = s.nmi.output ∧
    (n.suppressVblank = true ↔ s.nmi.suppressVblank = true ∨ At s 241 1) ∧
    (n.suppressNmi = true ↔ s.nmi.suppressNmi = true ∨ At s 241 1 ∨ At s 241 2 ∨ At s 241 3) ∧
    (At s 241 2 ∨ At s 241 3 → n.flag = false ∧ n.delay = 0 ∧ n.hold = 0) ∧
    (¬ (At s 241 2 ∨ At s 241 3) → n.flag = s.nmi.flag ∧ n.delay = s.nmi.delay ∧ n.hold = s.nmi.hold)

/-- The race table of 60_exceptions.md. From (241, 0) with NMI enabled and nothing pending, whatever the cartridge, `k`
ticks, a `$2002` read, then `j` ticks that stay in the frame: the bit read, the flags set, the vblank flag afterwards and
the NMI of this frame, whose 18th tick rests on decision D8 (hold before delay). -/
def Obligations.StatusReadRaceAroundVblank : Prop :=
  ∀ s : State, Inv s → At s 241 0 → bit s.regs.ctrl 7 = true →
    bit s.regs.status 7 = false → s.nmi.suppressVblank = false → s.nmi.suppressNmi = false →
    s.nmi.flag = false → s.nmi.delay = 0 →
    ∀ k j : Nat, k + j ≤ 6820 → ∃ (a b c : State) (r : Byte),
      runTicks k s = .next a ∧ exec .rPpuStatus a = .next b ∧ b.answer = .byte r ∧ runTicks j b = .next c ∧
      bit r 7 = decide (2 ≤ k) ∧
      b.nmi.suppressVblank = decide (k = 1) ∧ b.nmi.suppressNmi = decide (1 ≤ k ∧ k ≤ 3) ∧
      (k = 2 ∨ k = 3 → b.nmi.delay = 0 ∧ b.nmi.hold = 0 ∧ b.nmi.flag = false) ∧
      bit c.regs.status 7 = decide (k = 0 ∧ 2 ≤ j) ∧
      c.nmi.flag = decide ((k = 0 ∨ 4 ≤ k) ∧ 18 ≤ k + j)

/-- R133: `R.OAMDATA` returns the byte at `oam_addr`, all eight bits, and changes nothing, so a second read gives the
same byte; in every state, rendering or not. -/
def Obligations.OamDataReadHasNoSideEffect : Prop :=
  ∀ (s : State),
    (∀ d : Byte, decode { word := 0x0C00#16 ||| d.setWidth 16, payload := [] } = .ok .rOamData) ∧
    exec .rOamData s = .next { s with answer := .byte (Memory.read s.oam s.regs.oamAddr.toNat) } ∧
    runOps [.rOamData, .rOamData] s = exec .rOamData s

/-- `R.PPUDATA`: immediate in the palette range with the byte underneath into the buffer, buffered below it; the pattern
range asks the cartridge. The reads change only `v`, the buffer and what a bus read may change. -/
def Obligations.BufferedDataRead : Prop :=
  ∀ s : State,
    (0x3F00 ≤ busNumber s.regs.v →
      exec .rPpuData s = .next { queryMirroring s with
        regs := { s.regs with
          v := steppedV s
          ppuDataBuffer := Memory.read s.nametable
            (nametableByte (queryMirroring s).mir.cached (busNumber s.regs.v - 0x1000)) }
        answer := .byte (BitVec.ofNat 8 (paletteEntry s.palette (paletteIndex (busNumber s.regs.v)))) }) ∧
    (0x2000 ≤ busNumber s.regs.v → busNumber s.regs.v < 0x3F00 →
      exec .rPpuData s = .next { queryMirroring s with
        regs := { s.regs with
          v := steppedV s
          ppuDataBuffer := Memory.read s.nametable
            (nametableByte (queryMirroring s).mir.cached (busNumber s.regs.v)) }
        answer := .byte s.regs.ppuDataBuffer }) ∧
    (busNumber s.regs.v < 0x2000 →
      ∀ b, cartReadAnswer s (BitVec.ofNat 13 (busNumber s.regs.v)) = some b →
        exec .rPpuData s = .next { s with
          regs := { s.regs with v := steppedV s, ppuDataBuffer := b }
          cartLog := .ppuRead (BitVec.ofNat 13 (busNumber s.regs.v)) :: s.cartLog
          answer := .byte s.regs.ppuDataBuffer })

/-- `MapperFault` is raised by `R.PPUDATA` exactly when the cartridge fails the read of a pattern address, by `TICK` on
the fetch lines only, and by no other operation; with a cartridge that never fails it is never raised. When a `TICK`
raises it is `TickReadsTheBus`. -/
def Obligations.MapperFaultOnlyFromPatternReads : Prop :=
  (∀ s : State, exec .rPpuData s = .fault .mapperFault ↔
    busNumber s.regs.v < 0x2000 ∧ cartReadAnswer s (BitVec.ofNat 13 (busNumber s.regs.v)) = none) ∧
  (∀ (i : Instr) (s : State) (f : Fault),
    s.cart.NeverFails ∨ ¬ (i = .rPpuData ∨ (i = .tick ∧ OnFetchLine s)) → exec i s ≠ .fault f)

/-! ## DMA, acknowledges, reset -/

/-- `DMA`: byte `k` lands at `(oam_addr + k) & $FF`, `oam_addr` and everything else is kept. That a payload of another
length is refused is the spec's decision D32; that the term's meaning answers so, under this name, is the model's choice
(log entry 15). -/
def Obligations.DmaFillsOamFromOamAddress : Prop :=
  ∀ (s : State) (page : Byte) (bytes : List Byte),
    (bytes.length = 256 → Memory.wf oamSize s.oam = true → ∃ m : Memory,
      exec (.dma page bytes) s = .next { s with oam := m } ∧
      ∀ k (h : k < bytes.length), Memory.read m ((s.regs.oamAddr.toNat + k) % 256) = bytes[k]) ∧
    (bytes.length ≠ 256 → exec (.dma page bytes) s = .refused .dmaPayloadLength)

/-- A `DMA` leaves the machine as 256 successive `W.OAMDATA`s do (41_host_ops.md, DMA, corner case 4). -/
def Obligations.DmaEqualsOamDataWrites : Prop :=
  ∀ (s : State) (page : Byte) (bytes : List Byte), bytes.length = 256 →
    runOps (bytes.map Instr.wOamData) s = exec (.dma page bytes) s

/-- `NMIACK` answers the flag and clears it, and nothing else; a second one answers false. -/
def Obligations.NmiAcknowledgeReturnsOnce : Prop :=
  ∀ s : State, ∃ t,
    exec .nmiAck s = .next t ∧
    t = { s with nmi := { s.nmi with flag := false }, answer := .flag s.nmi.flag } ∧
    exec .nmiAck t = .next { t with answer := .flag false }

/-- `FRAMEACK` clears `frame_complete` and nothing else; a `TICK` never clears it. -/
def Obligations.FrameAcknowledgeClearsOneFlag : Prop :=
  (∀ s : State, exec .frameAck s = .next { s with seq := { s.seq with frameComplete := false } }) ∧
  ∀ s t : State, exec .tick s = .next t → s.seq.frameComplete = true → t.seq.frameComplete = true

/-- `RESET`: every register and pipeline variable zero, the palette seeded, the sequencer at (−1, 0) of an even frame,
the mirroring state from the mapper query; the memories, the cartridge and the parameters kept. The zeroes of what the
source does not name and the kept memories are decision D25, `frame_complete` D39; the kept stimuli and answer are the
model's own (log entry 9). -/
def Obligations.ResetZeroesRegistersAndSeedsPalette : Prop :=
  ∀ s : State, ∃ t, exec .reset s = .next t ∧
    t.regs = { ctrl := 0, mask := 0, status := 0, oamAddr := 0, v := 0, t := 0, fineX := 0, addressLatch := false,
               ppuDataBuffer := 0, renderingEnabled := false } ∧
    t.bg = { nextTileId := 0, nextTileAttr := 0, nextTileLsb := 0, nextTileMsb := 0, patternLo := 0, patternHi := 0,
             attrLo := 0, attrHi := 0 } ∧
    (t.spr.count = 0 ∧ t.spr.zeroHitPossible = false ∧ t.spr.zeroBeingRendered = false) ∧
    (∀ i : Fin 8, ∀ k, slotByte t.spr.slots[i] k = 0 ∧ t.spr.shifterLo[i] = 0 ∧ t.spr.shifterHi[i] = 0 ∧
      slotByte t.eval.slots[i] k = 0) ∧
    (t.eval.count = 0 ∧ t.eval.n = 0 ∧ t.eval.m = 0 ∧ t.eval.readLatch = 0 ∧ t.eval.zeroPossible = false ∧
      t.eval.overflowMode = false ∧ t.eval.done = false) ∧
    t.seq = { scanline := -1, cycle := 0, oddFrame := false, frameComplete := false, oddSkipLatch := false } ∧
    t.nmi = { occurred := false, output := false, previous := false, delay := 0, hold := 0, flag := false,
              suppressVblank := false, suppressNmi := false } ∧
    (∀ i : Fin 32, (t.palette[i]).toNat = (s.params.powerUpPalette[i]).toNat % 64) ∧
    (∀ m, cartMirroringAnswer s = some m → t.mir = { dynamic := true, cached := m }) ∧
    (cartMirroringAnswer s = none → t.mir = { dynamic := false, cached := s.params.staticMirroring }) ∧
    t.nametable = s.nametable ∧ t.oam = s.oam ∧ t.frame = s.frame ∧ t.cart = s.cart ∧
    t.cartLog = .mirroring :: s.cartLog ∧ t.params = s.params ∧ t.stimuli = s.stimuli ∧ t.answer = s.answer

/-! ## The NMI -/

/-- An NMI armed with the line high reaches its flag in the 16th tick: two ticks of hold, then fourteen of delay
(decisions D8, D9). The line may fall at (−1, 1) on the way, unless the NMI was armed with the sequencer there; only a
dot (241, 1) is kept out. -/
def Obligations.NmiRaisedSixteenTicksAfterArming : Prop :=
  ∀ s : State, s.cart.NeverFails → s.nmi.delay = 14 → s.nmi.hold = 2 → s.nmi.output = true →
    s.nmi.occurred = true → s.nmi.flag = false → ¬ At s (-1) 1 →
    (∀ k t, k < 16 → runTicks k s = .next t → ¬ At t 241 1) →
    ∀ k ≤ 16, ∃ t, runTicks k s = .next t ∧ t.nmi.flag = decide (k = 16) ∧
      t.nmi.delay = (if k ≤ 2 then 14 else 16 - k) ∧ t.nmi.hold = 2 - k

/-- One tick of the NMI counters away from the two dots that set and clear vblank (those are
`VblankStartsAtDotOneOfLine241` and `PreRenderLineClearsFlags`): a fall in the hold window cancels; after it the line is
not looked at. That the hold is counted before the delay is decision D8. -/
def Obligations.TickStepsNmiCounters : Prop :=
  ∀ s t : State, exec .tick s = .next t → ¬ At s (-1) 1 → ¬ At s 241 1 →
    (s.nmi.delay = 0 → t.nmi = s.nmi) ∧
    (0 < s.nmi.delay → 0 < s.nmi.hold → s.nmi.output = true → s.nmi.occurred = true →
      t.nmi = { s.nmi with hold := s.nmi.hold - 1 }) ∧
    (0 < s.nmi.delay → 0 < s.nmi.hold → ¬ (s.nmi.output = true ∧ s.nmi.occurred = true) →
      t.nmi = { s.nmi with delay := 0, hold := 0 }) ∧
    (0 < s.nmi.delay → s.nmi.hold = 0 →
      t.nmi = { s.nmi with delay := s.nmi.delay - 1, flag := s.nmi.flag || decide (s.nmi.delay = 1) })

/-- The tick at (241, 1), for any cartridge: step (a) runs; vblank is set unless suppressed, and a line that rises so arms
the counters; `suppress_vblank` is used up (decision D6); `suppress_nmi` cancels. Nothing else changes but the
position. -/
def Obligations.VblankStartsAtDotOneOfLine241 : Prop :=
  ∀ s : State, At s 241 1 → ∃ (st : Byte) (n : NmiState),
    exec .tick s = .next { s with
      regs := { s.regs with status := st }, nmi := n, seq := { s.seq with cycle := 2 } } ∧
    n.suppressVblank = false ∧ n.suppressNmi = s.nmi.suppressNmi ∧ n.output = s.nmi.output ∧
    (s.nmi.suppressVblank = true → st = s.regs.status ∧ n.occurred = s.nmi.occurred ∧ n.previous = s.nmi.previous) ∧
    (s.nmi.suppressVblank = false →
      st.toNat = s.regs.status.toNat % 128 + 128 ∧ n.occurred = true ∧ n.previous = s.nmi.output) ∧
    (s.nmi.suppressNmi = true → n.flag = false ∧ n.delay = 0 ∧ n.hold = 0) ∧
    (s.nmi.suppressNmi = false → n.flag = (nmiStepped s.nmi).flag) ∧
    (s.nmi.suppressNmi = false → s.nmi.suppressVblank = false ∧ s.nmi.output = true ∧ s.nmi.previous = false →
      n.delay = 14 ∧ n.hold = 2) ∧
    (s.nmi.suppressNmi = false → ¬ (s.nmi.suppressVblank = false ∧ s.nmi.output = true ∧ s.nmi.previous = false) →
      n.delay = (nmiStepped s.nmi).delay ∧ n.hold = (nmiStepped s.nmi).hold)

/-- The tick at (−1, 1), for any cartridge: step (a) runs, so a pending NMI goes on; then the three flags and
`suppress_nmi` are cleared and nothing is armed. The sprite line is cleared only under the open parameter: what
45_frame_driver.md lists, and the active slots (decision D17, log entry 12). Nothing else changes but the position. -/
def Obligations.PreRenderLineClearsFlags : Prop :=
  ∀ s : State, At s (-1) 1 → ∃ (st : Byte) (n : NmiState) (p : SpriteLine),
    exec .tick s = .next { s with
      regs := { s.regs with status := st }, nmi := n, spr := p, seq := { s.seq with cycle := 2 } } ∧
    st.toNat = s.regs.status.toNat % 32 ∧
    n.occurred = false ∧ n.previous = false ∧ n.suppressNmi = false ∧ n.output = s.nmi.output ∧
    n.suppressVblank = s.nmi.suppressVblank ∧
    n.flag = (nmiStepped s.nmi).flag ∧ n.delay = (nmiStepped s.nmi).delay ∧ n.hold = (nmiStepped s.nmi).hold ∧
    (s.params.prerenderSpriteClear = false → p = s.spr) ∧
    (s.params.prerenderSpriteClear = true → p.count = 0 ∧ p.zeroHitPossible = false ∧
      p.zeroBeingRendered = s.spr.zeroBeingRendered ∧
      ∀ i : Fin 8, p.shifterLo[i] = 0 ∧ p.shifterHi[i] = 0 ∧
        (∀ k, i.val < s.spr.count → slotByte p.slots[i] k = 0) ∧ (¬ i.val < s.spr.count → p.slots[i] = s.spr.slots[i]))

/-- `suppress_vblank` lasts until the tick at (241, 1) and no longer: every operation keeps it so (decision D6). -/
def Obligations.SuppressVblankEndsWithItsDot : Prop :=
  ∀ s t : State, SuppressOnlyAtVblank s → step s = .next t → SuppressOnlyAtVblank t

/-! ## The sequencer -/

/-- The three transitions of the sequencer with the frame flags that go with them, the skip of step (h) without an
advance (decision D40) and the latch of step (g); the position stays in [−1, 260] × [0, 340]. -/
def Obligations.TickAdvancesTheSequencer : Prop :=
  ∀ s t : State, s.seq.InRange → exec .tick s = .next t →
    t.seq.InRange ∧
    (At s (-1) 339 ∧ s.seq.oddFrame = true ∧ s.seq.oddSkipLatch = true →
      t.seq = { s.seq with scanline := 0, cycle := 0 }) ∧
    (¬ (At s (-1) 339 ∧ s.seq.oddFrame = true ∧ s.seq.oddSkipLatch = true) →
      (s.seq.cycle < 340 → At t s.seq.scanline (s.seq.cycle + 1) ∧
        t.seq.frameComplete = s.seq.frameComplete ∧ t.seq.oddFrame = s.seq.oddFrame) ∧
      (s.seq.cycle = 340 → s.seq.scanline < 260 → At t (s.seq.scanline + 1) 0 ∧
        t.seq.frameComplete = s.seq.frameComplete ∧ t.seq.oddFrame = s.seq.oddFrame) ∧
      (s.seq.cycle = 340 → s.seq.scanline = 260 → At t (-1) 0 ∧
        t.seq.frameComplete = true ∧ t.seq.oddFrame = !s.seq.oddFrame)) ∧
    (At s (-1) 338 → t.seq.oddSkipLatch = s.regs.renderingEnabled) ∧
    (¬ At s (-1) 338 → t.seq.oddSkipLatch = s.seq.oddSkipLatch)

/-- A tick completes with any cartridge that never fails, and with every cartridge on the lines 240..260; it then stands
at the next position. -/
def Obligations.TickCompletesUnlessAPatternReadFails : Prop :=
  ∀ s : State, s.seq.InRange → s.cart.NeverFails ∨ ¬ OnFetchLine s → ∃ t, exec .tick s = .next t ∧
    (At s (-1) 339 ∧ s.seq.oddFrame = true ∧ s.seq.oddSkipLatch = true → At t 0 0) ∧
    (¬ (At s (-1) 339 ∧ s.seq.oddFrame = true ∧ s.seq.oddSkipLatch = true) → s.seq.cycle < 340 →
      At t s.seq.scanline (s.seq.cycle + 1)) ∧
    (s.seq.cycle = 340 → s.seq.scanline < 260 → At t (s.seq.scanline + 1) 0) ∧
    (s.seq.cycle = 340 → s.seq.scanline = 260 → At t (-1) 0)

/-- A frame runs from (−1, 0) to (−1, 0) in 89,342 ticks, or 89,341 when it is odd with rendering enabled (decision D40),
with no other operation in between; `frame_complete` is then set and the parity flipped. -/
def Obligations.FrameLengthWithOddSkip : Prop :=
  ∀ s : State, s.cart.NeverFails → At s (-1) 0 →
    ∃ t, runTicks (if s.seq.oddFrame && s.regs.renderingEnabled then 89341 else 89342) s = .next t ∧
      At t (-1) 0 ∧ t.seq.frameComplete = true ∧ t.seq.oddFrame = !s.seq.oddFrame ∧
      ∀ k u, 0 < k → k < (if s.seq.oddFrame && s.regs.renderingEnabled then 89341 else 89342) →
        runTicks k s = .next u →
        ¬ At u (-1) 0 ∧ u.seq.oddFrame = s.seq.oddFrame ∧ u.seq.frameComplete = s.seq.frameComplete

/-- After `RESET` and a `W.PPUCTRL` with bit 7 set, the vblank flag rises in the 82,524th tick and the NMI flag in the
82,540th (decision D8). -/
def Obligations.VblankAndNmiAfterReset : Prop :=
  ∀ (s a : State) (d : Byte), s.cart.NeverFails → bit d 7 = true → runOps [.reset, .wPpuCtrl d] s = .next a →
    ∀ k ≤ 82540, ∃ t, runTicks k a = .next t ∧ bit t.regs.status 7 = decide (82524 ≤ k) ∧
      t.nmi.flag = decide (82540 ≤ k)

/-! ## Background -/

/-- R168, R169: away from the transfer dots, a tick changes `v` only by the X increment at dots 8, 16, …, 256, 328, 336
and the Y increment at dot 256 of the lines −1..239, and only with rendering enabled. -/
def Obligations.TickIncrementsScroll : Prop :=
  ∀ s t : State, exec .tick s = .next t → s.seq.cycle ≠ 257 →
    ¬ (s.seq.scanline = -1 ∧ 280 ≤ s.seq.cycle ∧ s.seq.cycle ≤ 304) →
    (¬ (OnFetchLine s ∧ s.regs.renderingEnabled = true) → t.regs.v = s.regs.v) ∧
    (OnFetchLine s → s.regs.renderingEnabled = true → t.regs.v.toNat =
      if s.seq.cycle = 256 then scrollY (scrollX s.regs.v.toNat)
      else if InWindow s.seq.cycle ∧ s.seq.cycle % 8 = 0 then scrollX s.regs.v.toNat
      else s.regs.v.toNat)

/-- At dot 257 coarse-X and the horizontal NT bit come from `t`, at dots 280–304 of the pre-render line fine-Y, coarse-Y
and the vertical NT bit; gated on rendering (decision D13). `t` itself is never changed by a tick. -/
def Obligations.TickTransfersScroll : Prop :=
  ∀ s a : State, exec .tick s = .next a →
    a.regs.t = s.regs.t ∧
    (OnFetchLine s → s.seq.cycle = 257 → s.regs.renderingEnabled = true →
      a.regs.v.toNat = vOf (s.regs.v.toNat / 4096) (s.regs.v.toNat / 2048 % 2) (s.regs.t.toNat / 1024 % 2)
        (s.regs.v.toNat / 32 % 32) (s.regs.t.toNat % 32)) ∧
    (s.seq.scanline = -1 → 280 ≤ s.seq.cycle → s.seq.cycle ≤ 304 → s.regs.renderingEnabled = true →
      a.regs.v.toNat = vOf (s.regs.t.toNat / 4096) (s.regs.t.toNat / 2048 % 2) (s.regs.v.toNat / 1024 % 2)
        (s.regs.t.toNat / 32 % 32) (s.regs.v.toNat % 32)) ∧
    (s.regs.renderingEnabled = false → a.regs.v = s.regs.v)

/-- The four background shifters over one tick: shifted at every dot of the window with rendering enabled, their low
bytes loaded at its phase-0 dots in any case; still everywhere else. -/
def Obligations.BackgroundShiftersShiftAndLoad : Prop :=
  ∀ s t : State, exec .tick s = .next t →
    (¬ (OnFetchLine s ∧ InWindow s.seq.cycle) →
      t.bg.patternLo = s.bg.patternLo ∧ t.bg.patternHi = s.bg.patternHi ∧ t.bg.attrLo = s.bg.attrLo ∧
      t.bg.attrHi = s.bg.attrHi) ∧
    (OnFetchLine s → InWindow s.seq.cycle →
      t.bg.patternLo.toNat = shifterAfter (s.regs.renderingEnabled = true) (s.seq.cycle % 8 = 1)
        s.bg.patternLo.toNat s.bg.nextTileLsb.toNat ∧
      t.bg.patternHi.toNat = shifterAfter (s.regs.renderingEnabled = true) (s.seq.cycle % 8 = 1)
        s.bg.patternHi.toNat s.bg.nextTileMsb.toNat ∧
      t.bg.attrLo.toNat = shifterAfter (s.regs.renderingEnabled = true) (s.seq.cycle % 8 = 1)
        s.bg.attrLo.toNat (s.bg.nextTileAttr.toNat % 2 * 255) ∧
      t.bg.attrHi.toNat = shifterAfter (s.regs.renderingEnabled = true) (s.seq.cycle % 8 = 1)
        s.bg.attrHi.toNat (s.bg.nextTileAttr.toNat / 2 * 255))

/-- The four fetches, for any cartridge and mirroring: which byte each phase of the window brings into which latch, and
that at every other dot, the dummy fetches of dots 338 and 340 included, the latches stay. The fetches do not look at
`rendering_enabled` (decision D12), and the phase-6 address is formed anew from the state at its dot (decision D14). -/
def Obligations.BackgroundFetchesFillLatches : Prop :=
  ∀ s t : State, exec .tick s = .next t →
    (¬ (OnFetchLine s ∧ InWindow s.seq.cycle) →
      t.bg.nextTileId = s.bg.nextTileId ∧ t.bg.nextTileAttr = s.bg.nextTileAttr ∧
      t.bg.nextTileLsb = s.bg.nextTileLsb ∧ t.bg.nextTileMsb = s.bg.nextTileMsb) ∧
    (OnFetchLine s → InWindow s.seq.cycle →
      (s.seq.cycle % 8 ≠ 1 → t.bg.nextTileId = s.bg.nextTileId) ∧
      (s.seq.cycle % 8 = 1 →
        t.bg.nextTileId = Memory.read s.nametable (nametableByte (queried s).mir.cached (nametableFetch s))) ∧
      (s.seq.cycle % 8 ≠ 3 → t.bg.nextTileAttr = s.bg.nextTileAttr) ∧
      (s.seq.cycle % 8 = 3 → t.bg.nextTileAttr.toNat =
        (Memory.read s.nametable (nametableByte (queried s).mir.cached (attributeFetch s))).toNat /
          2 ^ (4 * (s.regs.v.toNat / 64 % 2) + 2 * (s.regs.v.toNat / 2 % 2)) % 4) ∧
      (s.seq.cycle % 8 ≠ 5 → t.bg.nextTileLsb = s.bg.nextTileLsb) ∧
      (s.seq.cycle % 8 = 5 → (busRead s (patternFetch s)).map Prod.fst = some t.bg.nextTileLsb) ∧
      (s.seq.cycle % 8 ≠ 7 → t.bg.nextTileMsb = s.bg.nextTileMsb) ∧
      (s.seq.cycle % 8 = 7 → (busRead s (patternFetch s + 8)).map Prod.fst = some t.bg.nextTileMsb))

/-! ## Sprites -/

/-- At dots 2–256 of a visible line an active slot counts down, or shifts once its countdown is 0; inactive slots and
the other bytes of a slot stay. Not gated on rendering (decision D15). -/
def Obligations.SpriteCountdownAndShift : Prop :=
  ∀ s t : State, exec .tick s = .next t → OnVisibleLine s → 2 ≤ s.seq.cycle → s.seq.cycle ≤ 256 →
    t.spr.count = s.spr.count ∧ t.spr.zeroHitPossible = s.spr.zeroHitPossible ∧
    ∀ i : Fin 8,
      (∀ k < 3, slotByte t.spr.slots[i] k = slotByte s.spr.slots[i] k) ∧
      (¬ i.val < s.spr.count → t.spr.slots[i] = s.spr.slots[i] ∧ t.spr.shifterLo[i] = s.spr.shifterLo[i] ∧
        t.spr.shifterHi[i] = s.spr.shifterHi[i]) ∧
      (i.val < s.spr.count → (t.spr.slots[i]).x.toNat = (s.spr.slots[i]).x.toNat - 1) ∧
      (i.val < s.spr.count → 0 < (s.spr.slots[i]).x.toNat → t.spr.shifterLo[i] = s.spr.shifterLo[i] ∧
        t.spr.shifterHi[i] = s.spr.shifterHi[i]) ∧
      (i.val < s.spr.count → (s.spr.slots[i]).x.toNat = 0 →
        (t.spr.shifterLo[i]).toNat = (s.spr.shifterLo[i]).toNat * 2 % 256 ∧
        (t.spr.shifterHi[i]).toNat = (s.spr.shifterHi[i]).toNat * 2 % 256)

/-- At dot 257 of a visible line, for any cartridge, the whole evaluation array, its count and its sprite-zero flag are
copied; the sprite shifters and the evaluation state stay (decision D16: not gated). -/
def Obligations.SpriteLineCopiedAtDot257 : Prop :=
  ∀ s : State, OnVisibleLine s → s.seq.cycle = 257 → ∃ t, exec .tick s = .next t ∧
    t.spr = { s.spr with slots := s.eval.slots, count := s.eval.count, zeroHitPossible := s.eval.zeroPossible } ∧
    t.eval = s.eval

/-- At dot 340 of a visible line, with the test cartridge, each active slot whose sprite is on the line gets the two
planes of its row, bit-reversed under flip-H; slots that are not active keep theirs (decision D16: not gated). -/
def Obligations.SpritePatternsFetchedAtDot340 : Prop :=
  ∀ (s : State) (board : T0Board), OnVisibleLine s → s.seq.cycle = 340 → s.cart = .testT0 board →
    ∃ t, exec .tick s = .next t ∧ t.spr.slots = s.spr.slots ∧ t.spr.count = s.spr.count ∧
    ∀ i : Fin 8,
      (¬ i.val < s.spr.count → t.spr.shifterLo[i] = s.spr.shifterLo[i] ∧ t.spr.shifterHi[i] = s.spr.shifterHi[i]) ∧
      (i.val < s.spr.count → SpriteOnLine s.regs.ctrl s.seq.scanline (s.spr.slots[i]).y →
        StoredPlane (s.spr.slots[i]).attr
          (Memory.read board.chr (spritePattern s.regs.ctrl (s.spr.slots[i]).tile
            (rowOnLine s.regs.ctrl s.seq.scanline (s.spr.slots[i]).y (s.spr.slots[i]).attr)))
          t.spr.shifterLo[i] ∧
        StoredPlane (s.spr.slots[i]).attr
          (Memory.read board.chr (spritePattern s.regs.ctrl (s.spr.slots[i]).tile
            (rowOnLine s.regs.ctrl s.seq.scanline (s.spr.slots[i]).y (s.spr.slots[i]).attr) + 8))
          t.spr.shifterHi[i])

/-- At an odd dot of the evaluation window the OAM byte `(n*4 + m) & $FF` is held, unless evaluation is done; dot
65 first resets the cursors (with `eval_sprite_zero_possible`, decision D18). Without rendering evaluation stands still. -/
def Obligations.EvaluationReadsOnOddDots : Prop :=
  ∀ s t : State, exec .tick s = .next t → OnVisibleLine s → 65 ≤ s.seq.cycle → s.seq.cycle ≤ 256 →
    (s.regs.renderingEnabled = false → t.eval = s.eval) ∧
    (s.regs.renderingEnabled = true → s.seq.cycle = 65 →
      t.eval = { s.eval with
        count := 0, n := 0, m := 0, overflowMode := false, done := false, zeroPossible := false
        readLatch := Memory.read s.oam 0 }) ∧
    (s.regs.renderingEnabled = true → s.seq.cycle ≠ 65 → s.seq.cycle % 2 = 1 → s.eval.done = false →
      t.eval = { s.eval with readLatch := Memory.read s.oam ((s.eval.n * 4 + s.eval.m.toNat) % 256) }) ∧
    (s.regs.renderingEnabled = true → s.seq.cycle ≠ 65 → s.eval.done = true → t.eval = s.eval)

/-- An even dot of the evaluation window: the Y test and the copy in normal mode, the diagonal scan in overflow mode,
and the overflow flag, which only a hit of that scan sets. -/
def Obligations.EvaluationDecidesOnEvenDots : Prop :=
  ∀ s t : State, exec .tick s = .next t → OnVisibleLine s → 65 ≤ s.seq.cycle → s.seq.cycle ≤ 256 →
    s.seq.cycle % 2 = 0 → s.regs.renderingEnabled = true → s.eval.done = false →
    (bit t.regs.status 5 = true ↔ bit s.regs.status 5 = true ∨
      (s.eval.overflowMode = true ∧ SpriteOnLine s.regs.ctrl s.seq.scanline s.eval.readLatch)) ∧
    (s.eval.overflowMode = true → SpriteOnLine s.regs.ctrl s.seq.scanline s.eval.readLatch →
      t.eval = { s.eval with done := true }) ∧
    (s.eval.overflowMode = true → ¬ SpriteOnLine s.regs.ctrl s.seq.scanline s.eval.readLatch →
      t.eval = { s.eval with
        n := s.eval.n + 1, m := BitVec.ofNat 2 ((s.eval.m.toNat + 1) % 4), done := decide (s.eval.n + 1 = 64) }) ∧
    (s.eval.overflowMode = false → s.eval.m = 0#2 →
      ¬ SpriteOnLine s.regs.ctrl s.seq.scanline s.eval.readLatch →
      t.eval = { s.eval with n := s.eval.n + 1, done := decide (s.eval.n + 1 = 64) }) ∧
    (s.eval.overflowMode = false → s.eval.m = 0#2 → 8 ≤ s.eval.count →
      SpriteOnLine s.regs.ctrl s.seq.scanline s.eval.readLatch →
      t.eval = { s.eval with overflowMode := true }) ∧
    (s.eval.overflowMode = false → s.eval.m = 0#2 → s.eval.count < 8 →
      SpriteOnLine s.regs.ctrl s.seq.scanline s.eval.readLatch →
      t.eval = { s.eval with
        slots := t.eval.slots, m := 1, zeroPossible := s.eval.zeroPossible || decide (s.eval.n = 0) }) ∧
    (s.eval.overflowMode = false → s.eval.m ≠ 0#2 → s.eval.m ≠ 3#2 →
      t.eval = { s.eval with slots := t.eval.slots, m := BitVec.ofNat 2 (s.eval.m.toNat + 1) }) ∧
    (s.eval.overflowMode = false → s.eval.m = 3#2 →
      t.eval = { s.eval with
        slots := t.eval.slots, m := 0, n := s.eval.n + 1, count := s.eval.count + 1
        overflowMode := decide (s.eval.count + 1 = 8), done := decide (s.eval.n + 1 = 64) }) ∧
    (s.eval.overflowMode = false → s.eval.count < 8 →
      s.eval.m ≠ 0#2 ∨ SpriteOnLine s.regs.ctrl s.seq.scanline s.eval.readLatch →
      ∀ (j : Fin 8) (k : Nat), k < 4 → slotByte t.eval.slots[j] k =
        if j.val = s.eval.count ∧ k = s.eval.m.toNat then s.eval.readLatch else slotByte s.eval.slots[j] k)

/-- Evaluation that starts at dot 65 with rendering on is done by the end of its window, whatever OAM holds. -/
def Obligations.EvaluationFinishesInItsWindow : Prop :=
  ∀ s : State, s.cart.NeverFails → OnVisibleLine s → s.seq.cycle = 65 → s.regs.renderingEnabled = true →
    ∃ t, runTicks 192 s = .next t ∧ t.seq.cycle = 257 ∧ t.eval.done = true ∧ t.eval.count ≤ 8

/-- What evaluation finds: the first eight sprites in range, in OAM order, whole, and whether sprite 0 is among them (its
flag starts clear by the dot-65 reset of decision D18). -/
def Obligations.EvaluationSelectsTheFirstEightSprites : Prop :=
  ∀ s : State, s.cart.NeverFails → OnVisibleLine s → s.seq.cycle = 65 → s.regs.renderingEnabled = true →
    ∃ t, runTicks 192 s = .next t ∧
      t.eval.count = min 8 (spritesOnLine s.regs.ctrl s.seq.scanline s.oam).length ∧
      t.eval.zeroPossible = inRange s.regs.ctrl s.seq.scanline (Memory.read s.oam 0) ∧
      ∀ (j : Fin 8) (k : Nat), (spritesOnLine s.regs.ctrl s.seq.scanline s.oam)[j.val]? = some k →
        t.eval.slots[j] = oamEntry s.oam k

/-! ## Compositor -/

/-- R203, the selection table. -/
def Obligations.PriorityMultiplexerTable : Prop :=
  ∀ (bg fg : Pixel) (front : Bool),
    (bg.value = 0 → fg.value = 0 → mux bg fg front = { value := 0, palette := 0 }) ∧
    (bg.value = 0 → fg.value ≠ 0 → mux bg fg front = fg) ∧
    (bg.value ≠ 0 → fg.value = 0 → mux bg fg front = bg) ∧
    (bg.value ≠ 0 → fg.value ≠ 0 → front = true → mux bg fg front = fg) ∧
    (bg.value ≠ 0 → fg.value ≠ 0 → front = false → mux bg fg front = bg)

/-- Every tick of a composed dot writes one pixel, at column cycle − 1 of row scanline: the colour of the palette entry
that the background tap and the winning sprite select, as the shifters stand after this dot's shift; every other byte of
the framebuffer is as before. A tick of any other dot writes none. -/
def Obligations.TickWritesTheComposedPixel : Prop :=
  ∀ s t : State, exec .tick s = .next t → Memory.wf frameSize s.frame = true →
    (OnComposedDot s →
      PixelIs t.frame ((s.seq.scanline.toNat * 256 + (s.seq.cycle - 1)) * 3) s.params
        (paletteEntry s.palette (shownEntry t s.seq.cycle)) ∧
      ∀ a, a < (s.seq.scanline.toNat * 256 + (s.seq.cycle - 1)) * 3 ∨
        (s.seq.scanline.toNat * 256 + (s.seq.cycle - 1)) * 3 + 2 < a → Memory.read t.frame a = Memory.read s.frame a) ∧
    (¬ OnComposedDot s → t.frame = s.frame)

/-- Sprite-zero hit: over a tick of a composed dot, `status[6]` is set exactly when it was, or when an opaque background
pixel meets the opaque pixel of winning slot 0 that holds OAM sprite 0, both layers on, outside the clipped left
columns. There is no exclusion at dot 256. `sprite_zero_being_rendered` is set by the winning slot 0 when
`sprite_zero_hit_possible` (decision D23, log entry 13). -/
def Obligations.SpriteZeroHitCondition : Prop :=
  ∀ s t : State, exec .tick s = .next t → OnComposedDot s →
    (bit t.regs.status 6 = true ↔ bit s.regs.status 6 = true ∨ HitAt s t) ∧
    (t.spr.zeroBeingRendered = true ↔ winner t s.seq.cycle = some 0 ∧ s.spr.zeroHitPossible = true)

/-- With both layers off every composed dot shows the backdrop, palette entry 0, whatever `v` holds. -/
def Obligations.RenderingDisabledShowsBackdrop : Prop :=
  ∀ s t : State, exec .tick s = .next t → Memory.wf frameSize s.frame = true → OnComposedDot s →
    bit s.regs.mask 3 = false → bit s.regs.mask 4 = false →
    PixelIs t.frame ((s.seq.scanline.toNat * 256 + (s.seq.cycle - 1)) * 3) s.params (paletteEntry s.palette 0)

/-- The register bits without a function have no effect: two states that differ only in `ctrl[6]`, `ctrl[1:0]`, `mask[0]`
and `mask[7:5]` step alike, and differ only there afterwards. -/
def Obligations.UnusedRegisterBitsHaveNoEffect : Prop :=
  ∀ s t : State, SameUsedBits s t → OutcomesAgree SameUsedBits (step s) (step t)

/-! ## Video memory -/

/-- R68: two palette addresses with one index share one entry: what `W.PPUDATA` stores through one, masked to six bits,
`R.PPUDATA` returns through the other at once. -/
def Obligations.PaletteAliasesShareStorage : Prop :=
  ∀ (s t : State) (d : Byte) (v : VramAddr), 0x3F00 ≤ busNumber s.regs.v → 0x3F00 ≤ busNumber v →
    exec (.wPpuData d) s = .next t →
    (paletteIndex (busNumber v) = paletteIndex (busNumber s.regs.v) →
      ∃ u, exec .rPpuData { t with regs := { t.regs with v := v } } = .next u ∧
        u.answer = .byte (BitVec.ofNat 8 (d.toNat % 64))) ∧
    (paletteIndex (busNumber v) ≠ paletteIndex (busNumber s.regs.v) →
      ∃ u, exec .rPpuData { t with regs := { t.regs with v := v } } = .next u ∧
        u.answer = .byte (BitVec.ofNat 8 (paletteEntry s.palette (paletteIndex (busNumber v)))))

/-- The mirroring query before a nametable access: none under static mirroring; under dynamic mirroring the cartridge is
asked, an answer that is a mode is kept, and without one the last mode stands. Nothing else changes, and the query never
switches dynamic mirroring on or off. -/
def Obligations.MirroringQueriedUnderDynamicMirroring : Prop :=
  ∀ (s : State) (d : Byte), 0x2000 ≤ busNumber s.regs.v → busNumber s.regs.v < 0x3F00 → ∃ t,
    exec (.wPpuData d) s = .next t ∧ t.mir.dynamic = s.mir.dynamic ∧
    (s.mir.dynamic = false → t.mir = s.mir ∧ t.cartLog = s.cartLog) ∧
    (s.mir.dynamic = true → t.cartLog = .mirroring :: s.cartLog ∧
      t.mir.cached = (cartMirroringAnswer s).getD s.mir.cached)

/-- R66: the mirroring map, and the round trip: with static mirroring, what `W.PPUDATA` stores at a nametable address the
buffered read pair at any address of the same page and offset returns, under every mode. -/
def Obligations.NametableMirroringAndRoundTrip : Prop :=
  (∀ (m : Mirroring) (k : BitVec 2), (pageOf m k).toNat = physicalPage m k.toNat) ∧
  ∀ (s t : State) (d : Byte) (v w : VramAddr), s.mir.dynamic = false → Memory.wf nametableSize s.nametable = true →
    0x2000 ≤ busNumber s.regs.v → busNumber s.regs.v < 0x3F00 →
    0x2000 ≤ busNumber v → busNumber v < 0x3F00 → busNumber w < 0x3F00 → 0x2000 ≤ busNumber w →
    nametableByte s.mir.cached (busNumber v) = nametableByte s.mir.cached (busNumber s.regs.v) →
    exec (.wPpuData d) s = .next t →
    ∃ a b, exec .rPpuData { t with regs := { t.regs with v := v } } = .next a ∧
      exec .rPpuData { a with regs := { a.regs with v := w } } = .next b ∧ b.answer = .byte d

/-! ## Whole-machine rules -/

/-- What a tick leaves alone: the CPU's registers, the low bits of `status`, vblank away from its two dots, all video
memory but the framebuffer, OAM, the cartridge but for its scanline clock, which is called exactly at dot 260 of a
visible line with rendering on; on the pre-render line the sprite side (decision D16) and the framebuffer; on the lines 240..260 every
pipeline, `v`, the framebuffer and the cartridge. -/
def Obligations.TickFrameAndScanlineClock : Prop :=
  ∀ s t : State, exec .tick s = .next t →
    t.regs = { s.regs with v := t.regs.v, status := t.regs.status } ∧
    t.nametable = s.nametable ∧ t.palette = s.palette ∧ t.oam = s.oam ∧ t.params = s.params ∧
    t.stimuli = s.stimuli ∧ t.answer = s.answer ∧ t.mir.dynamic = s.mir.dynamic ∧
    t.regs.status.toNat % 32 = s.regs.status.toNat % 32 ∧
    (¬ At s (-1) 1 → ¬ At s 241 1 → bit t.regs.status 7 = bit s.regs.status 7) ∧
    (∀ id, s.cart = .mapper id → t.cart = .mapper id) ∧
    (∀ board, s.cart = .testT0 board → t.cart = .testT0 { board with
      clocks := board.clocks +
        if s.regs.renderingEnabled = true ∧ s.seq.cycle = 260 ∧ 0 ≤ s.seq.scanline ∧ s.seq.scanline ≤ 239
        then 1 else 0 }) ∧
    (s.seq.scanline = -1 → t.eval = s.eval ∧ t.frame = s.frame ∧ (s.seq.cycle ≠ 1 → t.spr = s.spr)) ∧
    (240 ≤ s.seq.scanline → t.bg = s.bg ∧ t.spr = s.spr ∧ t.eval = s.eval ∧ t.regs.v = s.regs.v ∧
      t.frame = s.frame ∧ t.cartLog = s.cartLog ∧ t.mir = s.mir)

/-- Who writes what (10_state.md, the writers of each piece of state), for every operation that completes. -/
def Obligations.OnlyTheseOperationsWriteEachPiece : Prop :=
  ∀ (i : Instr) (s t : State), exec i s = .next t →
    (t.regs.ctrl ≠ s.regs.ctrl → i = .reset ∨ ∃ d, i = .wPpuCtrl d) ∧
    (t.regs.mask ≠ s.regs.mask ∨ t.regs.renderingEnabled ≠ s.regs.renderingEnabled →
      i = .reset ∨ ∃ d, i = .wPpuMask d) ∧
    (t.regs.oamAddr ≠ s.regs.oamAddr → i = .reset ∨ (∃ d, i = .wOamAddr d) ∨ ∃ d, i = .wOamData d) ∧
    (t.regs.t ≠ s.regs.t → i = .reset ∨ (∃ d, i = .wPpuCtrl d) ∨ (∃ d, i = .wPpuScroll d) ∨ ∃ d, i = .wPpuAddr d) ∧
    (t.regs.fineX ≠ s.regs.fineX → i = .reset ∨ ∃ d, i = .wPpuScroll d) ∧
    (t.regs.addressLatch ≠ s.regs.addressLatch →
      i = .reset ∨ i = .rPpuStatus ∨ (∃ d, i = .wPpuScroll d) ∨ ∃ d, i = .wPpuAddr d) ∧
    (t.regs.ppuDataBuffer ≠ s.regs.ppuDataBuffer → i = .reset ∨ i = .rPpuData) ∧
    (t.regs.v ≠ s.regs.v → i = .reset ∨ i = .tick ∨ i = .rPpuData ∨ (∃ d, i = .wPpuAddr d) ∨ ∃ d, i = .wPpuData d) ∧
    (t.regs.status ≠ s.regs.status → i = .reset ∨ i = .tick ∨ i = .rPpuStatus) ∧
    (t.nmi ≠ s.nmi → i = .reset ∨ i = .tick ∨ i = .rPpuStatus ∨ i = .nmiAck ∨ ∃ d, i = .wPpuCtrl d) ∧
    (t.bg ≠ s.bg ∨ t.spr ≠ s.spr ∨ t.eval ≠ s.eval → i = .reset ∨ i = .tick) ∧
    (t.seq.scanline ≠ s.seq.scanline ∨ t.seq.cycle ≠ s.seq.cycle ∨ t.seq.oddFrame ≠ s.seq.oddFrame ∨
      t.seq.oddSkipLatch ≠ s.seq.oddSkipLatch → i = .reset ∨ i = .tick) ∧
    (t.seq.frameComplete ≠ s.seq.frameComplete → i = .reset ∨ i = .tick ∨ i = .frameAck) ∧
    (t.nametable ≠ s.nametable → ∃ d, i = .wPpuData d) ∧
    (t.palette ≠ s.palette → i = .reset ∨ ∃ d, i = .wPpuData d) ∧
    (t.oam ≠ s.oam → (∃ d, i = .wOamData d) ∨ ∃ p b, i = .dma p b) ∧
    (t.frame ≠ s.frame → i = .tick) ∧
    (t.cart ≠ s.cart → i = .tick ∨ ∃ d, i = .wPpuData d) ∧
    (t.cartLog ≠ s.cartLog ∨ t.mir ≠ s.mir → i = .reset ∨ i = .tick ∨ i = .rPpuData ∨ ∃ d, i = .wPpuData d) ∧
    t.params = s.params ∧ t.stimuli = s.stimuli

/-- Sprite-zero hit and overflow stay set until the tick at (−1, 1) or a `RESET`; reading `$2002` does not clear them. -/
def Obligations.HitAndOverflowFlagsAreSticky : Prop :=
  ∀ (i : Instr) (s t : State) (k : Nat), k = 5 ∨ k = 6 → exec i s = .next t → bit s.regs.status k = true →
    bit t.regs.status k = false → i = .reset ∨ (i = .tick ∧ At s (-1) 1)

/-- Every step keeps the invariant of 10_state.md R38. -/
def Obligations.InvariantKeptByEveryStep : Prop :=
  ∀ s t : State, Inv s → step s = .next t → Inv t

/-- The invariant holds at reset. -/
def Obligations.InvariantHoldsAtReset : Prop := Inv State.reset

/-! ## Every tick: its bus reads, its sprite state, its status flags -/

/-- The bus reads of a tick, for any cartridge: it raises `MapperFault` exactly when one of its reads, in order, fails;
otherwise it completes, and the cartridge has been called for exactly those reads and, with rendering enabled at dot 260
of a visible line, its scanline clock, the mirroring mode being the last answer. At dot 340 of a visible line active slot
`i` holds the bytes of its two reads, bit-reversed under flip-H, on the line or not (D16, D21). -/
def Obligations.TickReadsTheBus : Prop :=
  ∀ s : State,
    (exec .tick s = .fault .mapperFault ↔ busReads s (tickReads s) = none) ∧
    ∀ bytes q, busReads s (tickReads s) = some (bytes, q) → ∃ t, exec .tick s = .next t ∧ t.mir = q.mir ∧
      t.cartLog =
        (if s.regs.renderingEnabled = true ∧ OnVisibleLine s ∧ s.seq.cycle = 260 then [CartCall.clockScanline] else []) ++
          q.cartLog ∧
      (OnVisibleLine s → s.seq.cycle = 340 → ∀ i : Fin 8, i.val < s.spr.count →
        ∃ lo hi, bytes[2 * i.val + 1]? = some lo ∧ bytes[2 * i.val + 2]? = some hi ∧
          StoredPlane (s.spr.slots[i]).attr lo t.spr.shifterLo[i] ∧ StoredPlane (s.spr.slots[i]).attr hi t.spr.shifterHi[i])

/-- The sprite side outside its dots: the sprite line changes at dots 2–257 and 340 of a visible line and, under the open
parameter, at (−1, 1) only (decision D16); its two sprite-zero flags at dot 257 and at composed dots; the evaluation state
at dots 65–256 of a visible line with rendering enabled. -/
def Obligations.SpriteStateStaysOutsideItsDots : Prop :=
  ∀ s t : State, exec .tick s = .next t →
    (¬ (OnVisibleLine s ∧ (2 ≤ s.seq.cycle ∧ s.seq.cycle ≤ 257 ∨ s.seq.cycle = 340)) → ¬ At s (-1) 1 →
      t.spr = { s.spr with zeroBeingRendered := t.spr.zeroBeingRendered }) ∧
    (¬ (OnVisibleLine s ∧ s.seq.cycle = 257) → ¬ At s (-1) 1 →
      t.spr.zeroHitPossible = s.spr.zeroHitPossible ∧ t.spr.count = s.spr.count) ∧
    (¬ OnComposedDot s → t.spr.zeroBeingRendered = s.spr.zeroBeingRendered) ∧
    (¬ (OnVisibleLine s ∧ 65 ≤ s.seq.cycle ∧ s.seq.cycle ≤ 256 ∧ s.regs.renderingEnabled = true) → t.eval = s.eval)

/-- The three status flags after any tick, at every dot of every line: cleared at (−1, 1), vblank set at (241, 1) unless
suppressed, sprite-zero hit set at a composed dot that meets its condition, overflow set by an in-range byte that
evaluation decides on in overflow mode; otherwise as before. The five low bits never change. -/
def Obligations.StatusFlagsAfterEveryTick : Prop :=
  ∀ s t : State, exec .tick s = .next t →
    (bit t.regs.status 7 = true ↔ ¬ At s (-1) 1 ∧
      (bit s.regs.status 7 = true ∨ (At s 241 1 ∧ s.nmi.suppressVblank = false))) ∧
    (bit t.regs.status 6 = true ↔ ¬ At s (-1) 1 ∧ (bit s.regs.status 6 = true ∨ (OnComposedDot s ∧ HitAt s t))) ∧
    (bit t.regs.status 5 = true ↔ ¬ At s (-1) 1 ∧
      (bit s.regs.status 5 = true ∨ (Decides s ∧ s.eval.overflowMode = true ∧
        SpriteOnLine s.regs.ctrl s.seq.scanline s.eval.readLatch))) ∧
    t.regs.status.toNat % 32 = s.regs.status.toNat % 32
end

