-- ==== Sys2Proof/Laws/State.lean ====
section
/-! SUPPORT. One lemma per field of State and update of `Machine/Ops.lean`, so that no proof unfolds a record update. -/
namespace Sys2Proof.Machine

@[simp] theorem State.setRegs_regs (s : State) (x : Regs) : (s.setRegs x).regs = x := rfl
@[simp] theorem State.setRegs_bg (s : State) (x : Regs) : (s.setRegs x).bg = s.bg := rfl
@[simp] theorem State.setRegs_spr (s : State) (x : Regs) : (s.setRegs x).spr = s.spr := rfl
@[simp] theorem State.setRegs_eval (s : State) (x : Regs) : (s.setRegs x).eval = s.eval := rfl
@[simp] theorem State.setRegs_seq (s : State) (x : Regs) : (s.setRegs x).seq = s.seq := rfl
@[simp] theorem State.setRegs_nmi (s : State) (x : Regs) : (s.setRegs x).nmi = s.nmi := rfl
@[simp] theorem State.setRegs_mir (s : State) (x : Regs) : (s.setRegs x).mir = s.mir := rfl
@[simp] theorem State.setRegs_nametable (s : State) (x : Regs) : (s.setRegs x).nametable = s.nametable := rfl
@[simp] theorem State.setRegs_palette (s : State) (x : Regs) : (s.setRegs x).palette = s.palette := rfl
@[simp] theorem State.setRegs_oam (s : State) (x : Regs) : (s.setRegs x).oam = s.oam := rfl
@[simp] theorem State.setRegs_frame (s : State) (x : Regs) : (s.setRegs x).frame = s.frame := rfl
@[simp] theorem State.setRegs_cart (s : State) (x : Regs) : (s.setRegs x).cart = s.cart := rfl
@[simp] theorem State.setRegs_cartLog (s : State) (x : Regs) : (s.setRegs x).cartLog = s.cartLog := rfl
@[simp] theorem State.setRegs_params (s : State) (x : Regs) : (s.setRegs x).params = s.params := rfl
@[simp] theorem State.setRegs_stimuli (s : State) (x : Regs) : (s.setRegs x).stimuli = s.stimuli := rfl
@[simp] theorem State.setRegs_answer (s : State) (x : Regs) : (s.setRegs x).answer = s.answer := rfl

@[simp] theorem State.setBg_regs (s : State) (x : BgPipe) : (s.setBg x).regs = s.regs := rfl
@[simp] theorem State.setBg_bg (s : State) (x : BgPipe) : (s.setBg x).bg = x := rfl
@[simp] theorem State.setBg_spr (s : State) (x : BgPipe) : (s.setBg x).spr = s.spr := rfl
@[simp] theorem State.setBg_eval (s : State) (x : BgPipe) : (s.setBg x).eval = s.eval := rfl
@[simp] theorem State.setBg_seq (s : State) (x : BgPipe) : (s.setBg x).seq = s.seq := rfl
@[simp] theorem State.setBg_nmi (s : State) (x : BgPipe) : (s.setBg x).nmi = s.nmi := rfl
@[simp] theorem State.setBg_mir (s : State) (x : BgPipe) : (s.setBg x).mir = s.mir := rfl
@[simp] theorem State.setBg_nametable (s : State) (x : BgPipe) : (s.setBg x).nametable = s.nametable := rfl
@[simp] theorem State.setBg_palette (s : State) (x : BgPipe) : (s.setBg x).palette = s.palette := rfl
@[simp] theorem State.setBg_oam (s : State) (x : BgPipe) : (s.setBg x).oam = s.oam := rfl
@[simp] theorem State.setBg_frame (s : State) (x : BgPipe) : (s.setBg x).frame = s.frame := rfl
@[simp] theorem State.setBg_cart (s : State) (x : BgPipe) : (s.setBg x).cart = s.cart := rfl
@[simp] theorem State.setBg_cartLog (s : State) (x : BgPipe) : (s.setBg x).cartLog = s.cartLog := rfl
@[simp] theorem State.setBg_params (s : State) (x : BgPipe) : (s.setBg x).params = s.params := rfl
@[simp] theorem State.setBg_stimuli (s : State) (x : BgPipe) : (s.setBg x).stimuli = s.stimuli := rfl
@[simp] theorem State.setBg_answer (s : State) (x : BgPipe) : (s.setBg x).answer = s.answer := rfl

@[simp] theorem State.setSpr_regs (s : State) (x : SpriteLine) : (s.setSpr x).regs = s.regs := rfl
@[simp] theorem State.setSpr_bg (s : State) (x : SpriteLine) : (s.setSpr x).bg = s.bg := rfl
@[simp] theorem State.setSpr_spr (s : State) (x : SpriteLine) : (s.setSpr x).spr = x := rfl
@[simp] theorem State.setSpr_eval (s : State) (x : SpriteLine) : (s.setSpr x).eval = s.eval := rfl
@[simp] theorem State.setSpr_seq (s : State) (x : SpriteLine) : (s.setSpr x).seq = s.seq := rfl
@[simp] theorem State.setSpr_nmi (s : State) (x : SpriteLine) : (s.setSpr x).nmi = s.nmi := rfl
@[simp] theorem State.setSpr_mir (s : State) (x : SpriteLine) : (s.setSpr x).mir = s.mir := rfl
@[simp] theorem State.setSpr_nametable (s : State) (x : SpriteLine) : (s.setSpr x).nametable = s.nametable := rfl
@[simp] theorem State.setSpr_palette (s : State) (x : SpriteLine) : (s.setSpr x).palette = s.palette := rfl
@[simp] theorem State.setSpr_oam (s : State) (x : SpriteLine) : (s.setSpr x).oam = s.oam := rfl
@[simp] theorem State.setSpr_frame (s : State) (x : SpriteLine) : (s.setSpr x).frame = s.frame := rfl
@[simp] theorem State.setSpr_cart (s : State) (x : SpriteLine) : (s.setSpr x).cart = s.cart := rfl
@[simp] theorem State.setSpr_cartLog (s : State) (x : SpriteLine) : (s.setSpr x).cartLog = s.cartLog := rfl
@[simp] theorem State.setSpr_params (s : State) (x : SpriteLine) : (s.setSpr x).params = s.params := rfl
@[simp] theorem State.setSpr_stimuli (s : State) (x : SpriteLine) : (s.setSpr x).stimuli = s.stimuli := rfl
@[simp] theorem State.setSpr_answer (s : State) (x : SpriteLine) : (s.setSpr x).answer = s.answer := rfl

@[simp] theorem State.setEval_regs (s : State) (x : SpriteEval) : (s.setEval x).regs = s.regs := rfl
@[simp] theorem State.setEval_bg (s : State) (x : SpriteEval) : (s.setEval x).bg = s.bg := rfl
@[simp] theorem State.setEval_spr (s : State) (x : SpriteEval) : (s.setEval x).spr = s.spr := rfl
@[simp] theorem State.setEval_eval (s : State) (x : SpriteEval) : (s.setEval x).eval = x := rfl
@[simp] theorem State.setEval_seq (s : State) (x : SpriteEval) : (s.setEval x).seq = s.seq := rfl
@[simp] theorem State.setEval_nmi (s : State) (x : SpriteEval) : (s.setEval x).nmi = s.nmi := rfl
@[simp] theorem State.setEval_mir (s : State) (x : SpriteEval) : (s.setEval x).mir = s.mir := rfl
@[simp] theorem State.setEval_nametable (s : State) (x : SpriteEval) : (s.setEval x).nametable = s.nametable := rfl
@[simp] theorem State.setEval_palette (s : State) (x : SpriteEval) : (s.setEval x).palette = s.palette := rfl
@[simp] theorem State.setEval_oam (s : State) (x : SpriteEval) : (s.setEval x).oam = s.oam := rfl
@[simp] theorem State.setEval_frame (s : State) (x : SpriteEval) : (s.setEval x).frame = s.frame := rfl
@[simp] theorem State.setEval_cart (s : State) (x : SpriteEval) : (s.setEval x).cart = s.cart := rfl
@[simp] theorem State.setEval_cartLog (s : State) (x : SpriteEval) : (s.setEval x).cartLog = s.cartLog := rfl
@[simp] theorem State.setEval_params (s : State) (x : SpriteEval) : (s.setEval x).params = s.params := rfl
@[simp] theorem State.setEval_stimuli (s : State) (x : SpriteEval) : (s.setEval x).stimuli = s.stimuli := rfl
@[simp] theorem State.setEval_answer (s : State) (x : SpriteEval) : (s.setEval x).answer = s.answer := rfl

@[simp] theorem State.setSeq_regs (s : State) (x : Sequencer) : (s.setSeq x).regs = s.regs := rfl
@[simp] theorem State.setSeq_bg (s : State) (x : Sequencer) : (s.setSeq x).bg = s.bg := rfl
@[simp] theorem State.setSeq_spr (s : State) (x : Sequencer) : (s.setSeq x).spr = s.spr := rfl
@[simp] theorem State.setSeq_eval (s : State) (x : Sequencer) : (s.setSeq x).eval = s.eval := rfl
@[simp] theorem State.setSeq_seq (s : State) (x : Sequencer) : (s.setSeq x).seq = x := rfl
@[simp] theorem State.setSeq_nmi (s : State) (x : Sequencer) : (s.setSeq x).nmi = s.nmi := rfl
@[simp] theorem State.setSeq_mir (s : State) (x : Sequencer) : (s.setSeq x).mir = s.mir := rfl
@[simp] theorem State.setSeq_nametable (s : State) (x : Sequencer) : (s.setSeq x).nametable = s.nametable := rfl
@[simp] theorem State.setSeq_palette (s : State) (x : Sequencer) : (s.setSeq x).palette = s.palette := rfl
@[simp] theorem State.setSeq_oam (s : State) (x : Sequencer) : (s.setSeq x).oam = s.oam := rfl
@[simp] theorem State.setSeq_frame (s : State) (x : Sequencer) : (s.setSeq x).frame = s.frame := rfl
@[simp] theorem State.setSeq_cart (s : State) (x : Sequencer) : (s.setSeq x).cart = s.cart := rfl
@[simp] theorem State.setSeq_cartLog (s : State) (x : Sequencer) : (s.setSeq x).cartLog = s.cartLog := rfl
@[simp] theorem State.setSeq_params (s : State) (x : Sequencer) : (s.setSeq x).params = s.params := rfl
@[simp] theorem State.setSeq_stimuli (s : State) (x : Sequencer) : (s.setSeq x).stimuli = s.stimuli := rfl
@[simp] theorem State.setSeq_answer (s : State) (x : Sequencer) : (s.setSeq x).answer = s.answer := rfl

@[simp] theorem State.setNmi_regs (s : State) (x : NmiState) : (s.setNmi x).regs = s.regs := rfl
@[simp] theorem State.setNmi_bg (s : State) (x : NmiState) : (s.setNmi x).bg = s.bg := rfl
@[simp] theorem State.setNmi_spr (s : State) (x : NmiState) : (s.setNmi x).spr = s.spr := rfl
@[simp] theorem State.setNmi_eval (s : State) (x : NmiState) : (s.setNmi x).eval = s.eval := rfl
@[simp] theorem State.setNmi_seq (s : State) (x : NmiState) : (s.setNmi x).seq = s.seq := rfl
@[simp] theorem State.setNmi_nmi (s : State) (x : NmiState) : (s.setNmi x).nmi = x := rfl
@[simp] theorem State.setNmi_mir (s : State) (x : NmiState) : (s.setNmi x).mir = s.mir := rfl
@[simp] theorem State.setNmi_nametable (s : State) (x : NmiState) : (s.setNmi x).nametable = s.nametable := rfl
@[simp] theorem State.setNmi_palette (s : State) (x : NmiState) : (s.setNmi x).palette = s.palette := rfl
@[simp] theorem State.setNmi_oam (s : State) (x : NmiState) : (s.setNmi x).oam = s.oam := rfl
@[simp] theorem State.setNmi_frame (s : State) (x : NmiState) : (s.setNmi x).frame = s.frame := rfl
@[simp] theorem State.setNmi_cart (s : State) (x : NmiState) : (s.setNmi x).cart = s.cart := rfl
@[simp] theorem State.setNmi_cartLog (s : State) (x : NmiState) : (s.setNmi x).cartLog = s.cartLog := rfl
@[simp] theorem State.setNmi_params (s : State) (x : NmiState) : (s.setNmi x).params = s.params := rfl
@[simp] theorem State.setNmi_stimuli (s : State) (x : NmiState) : (s.setNmi x).stimuli = s.stimuli := rfl
@[simp] theorem State.setNmi_answer (s : State) (x : NmiState) : (s.setNmi x).answer = s.answer := rfl

@[simp] theorem State.setMir_regs (s : State) (x : MirrorState) : (s.setMir x).regs = s.regs := rfl
@[simp] theorem State.setMir_bg (s : State) (x : MirrorState) : (s.setMir x).bg = s.bg := rfl
@[simp] theorem State.setMir_spr (s : State) (x : MirrorState) : (s.setMir x).spr = s.spr := rfl
@[simp] theorem State.setMir_eval (s : State) (x : MirrorState) : (s.setMir x).eval = s.eval := rfl
@[simp] theorem State.setMir_seq (s : State) (x : MirrorState) : (s.setMir x).seq = s.seq := rfl
@[simp] theorem State.setMir_nmi (s : State) (x : MirrorState) : (s.setMir x).nmi = s.nmi := rfl
@[simp] theorem State.setMir_mir (s : State) (x : MirrorState) : (s.setMir x).mir = x := rfl
@[simp] theorem State.setMir_nametable (s : State) (x : MirrorState) : (s.setMir x).nametable = s.nametable := rfl
@[simp] theorem State.setMir_palette (s : State) (x : MirrorState) : (s.setMir x).palette = s.palette := rfl
@[simp] theorem State.setMir_oam (s : State) (x : MirrorState) : (s.setMir x).oam = s.oam := rfl
@[simp] theorem State.setMir_frame (s : State) (x : MirrorState) : (s.setMir x).frame = s.frame := rfl
@[simp] theorem State.setMir_cart (s : State) (x : MirrorState) : (s.setMir x).cart = s.cart := rfl
@[simp] theorem State.setMir_cartLog (s : State) (x : MirrorState) : (s.setMir x).cartLog = s.cartLog := rfl
@[simp] theorem State.setMir_params (s : State) (x : MirrorState) : (s.setMir x).params = s.params := rfl
@[simp] theorem State.setMir_stimuli (s : State) (x : MirrorState) : (s.setMir x).stimuli = s.stimuli := rfl
@[simp] theorem State.setMir_answer (s : State) (x : MirrorState) : (s.setMir x).answer = s.answer := rfl

@[simp] theorem State.setNametable_regs (s : State) (x : Memory) : (s.setNametable x).regs = s.regs := rfl
@[simp] theorem State.setNametable_bg (s : State) (x : Memory) : (s.setNametable x).bg = s.bg := rfl
@[simp] theorem State.setNametable_spr (s : State) (x : Memory) : (s.setNametable x).spr = s.spr := rfl
@[simp] theorem State.setNametable_eval (s : State) (x : Memory) : (s.setNametable x).eval = s.eval := rfl
@[simp] theorem State.setNametable_seq (s : State) (x : Memory) : (s.setNametable x).seq = s.seq := rfl
@[simp] theorem State.setNametable_nmi (s : State) (x : Memory) : (s.setNametable x).nmi = s.nmi := rfl
@[simp] theorem State.setNametable_mir (s : State) (x : Memory) : (s.setNametable x).mir = s.mir := rfl
@[simp] theorem State.setNametable_nametable (s : State) (x : Memory) : (s.setNametable x).nametable = x := rfl
@[simp] theorem State.setNametable_palette (s : State) (x : Memory) : (s.setNametable x).palette = s.palette := rfl
@[simp] theorem State.setNametable_oam (s : State) (x : Memory) : (s.setNametable x).oam = s.oam := rfl
@[simp] theorem State.setNametable_frame (s : State) (x : Memory) : (s.setNametable x).frame = s.frame := rfl
@[simp] theorem State.setNametable_cart (s : State) (x : Memory) : (s.setNametable x).cart = s.cart := rfl
@[simp] theorem State.setNametable_cartLog (s : State) (x : Memory) : (s.setNametable x).cartLog = s.cartLog := rfl
@[simp] theorem State.setNametable_params (s : State) (x : Memory) : (s.setNametable x).params = s.params := rfl
@[simp] theorem State.setNametable_stimuli (s : State) (x : Memory) : (s.setNametable x).stimuli = s.stimuli := rfl
@[simp] theorem State.setNametable_answer (s : State) (x : Memory) : (s.setNametable x).answer = s.answer := rfl

@[simp] theorem State.setPalette_regs (s : State) (x : Vector (BitVec 6) 32) : (s.setPalette x).regs = s.regs := rfl
@[simp] theorem State.setPalette_bg (s : State) (x : Vector (BitVec 6) 32) : (s.setPalette x).bg = s.bg := rfl
@[simp] theorem State.setPalette_spr (s : State) (x : Vector (BitVec 6) 32) : (s.setPalette x).spr = s.spr := rfl
@[simp] theorem State.setPalette_eval (s : State) (x : Vector (BitVec 6) 32) : (s.setPalette x).eval = s.eval := rfl
@[simp] theorem State.setPalette_seq (s : State) (x : Vector (BitVec 6) 32) : (s.setPalette x).seq = s.seq := rfl
@[simp] theorem State.setPalette_nmi (s : State) (x : Vector (BitVec 6) 32) : (s.setPalette x).nmi = s.nmi := rfl
@[simp] theorem State.setPalette_mir (s : State) (x : Vector (BitVec 6) 32) : (s.setPalette x).mir = s.mir := rfl
@[simp] theorem State.setPalette_nametable (s : State) (x : Vector (BitVec 6) 32) : (s.setPalette x).nametable = s.nametable := rfl
@[simp] theorem State.setPalette_palette (s : State) (x : Vector (BitVec 6) 32) : (s.setPalette x).palette = x := rfl
@[simp] theorem State.setPalette_oam (s : State) (x : Vector (BitVec 6) 32) : (s.setPalette x).oam = s.oam := rfl
@[simp] theorem State.setPalette_frame (s : State) (x : Vector (BitVec 6) 32) : (s.setPalette x).frame = s.frame := rfl
@[simp] theorem State.setPalette_cart (s : State) (x : Vector (BitVec 6) 32) : (s.setPalette x).cart = s.cart := rfl
@[simp] theorem State.setPalette_cartLog (s : State) (x : Vector (BitVec 6) 32) : (s.setPalette x).cartLog = s.cartLog := rfl
@[simp] theorem State.setPalette_params (s : State) (x : Vector (BitVec 6) 32) : (s.setPalette x).params = s.params := rfl
@[simp] theorem State.setPalette_stimuli (s : State) (x : Vector (BitVec 6) 32) : (s.setPalette x).stimuli = s.stimuli := rfl
@[simp] theorem State.setPalette_answer (s : State) (x : Vector (BitVec 6) 32) : (s.setPalette x).answer = s.answer := rfl

@[simp] theorem State.setOam_regs (s : State) (x : Memory) : (s.setOam x).regs = s.regs := rfl
@[simp] theorem State.setOam_bg (s : State) (x : Memory) : (s.setOam x).bg = s.bg := rfl
@[simp] theorem State.setOam_spr (s : State) (x : Memory) : (s.setOam x).spr = s.spr := rfl
@[simp] theorem State.setOam_eval (s : State) (x : Memory) : (s.setOam x).eval = s.eval := rfl
@[simp] theorem State.setOam_seq (s : State) (x : Memory) : (s.setOam x).seq = s.seq := rfl
@[simp] theorem State.setOam_nmi (s : State) (x : Memory) : (s.setOam x).nmi = s.nmi := rfl
@[simp] theorem State.setOam_mir (s : State) (x : Memory) : (s.setOam x).mir = s.mir := rfl
@[simp] theorem State.setOam_nametable (s : State) (x : Memory) : (s.setOam x).nametable = s.nametable := rfl
@[simp] theorem State.setOam_palette (s : State) (x : Memory) : (s.setOam x).palette = s.palette := rfl
@[simp] theorem State.setOam_oam (s : State) (x : Memory) : (s.setOam x).oam = x := rfl
@[simp] theorem State.setOam_frame (s : State) (x : Memory) : (s.setOam x).frame = s.frame := rfl
@[simp] theorem State.setOam_cart (s : State) (x : Memory) : (s.setOam x).cart = s.cart := rfl
@[simp] theorem State.setOam_cartLog (s : State) (x : Memory) : (s.setOam x).cartLog = s.cartLog := rfl
@[simp] theorem State.setOam_params (s : State) (x : Memory) : (s.setOam x).params = s.params := rfl
@[simp] theorem State.setOam_stimuli (s : State) (x : Memory) : (s.setOam x).stimuli = s.stimuli := rfl
@[simp] theorem State.setOam_answer (s : State) (x : Memory) : (s.setOam x).answer = s.answer := rfl

@[simp] theorem State.setFrame_regs (s : State) (x : Memory) : (s.setFrame x).regs = s.regs := rfl
@[simp] theorem State.setFrame_bg (s : State) (x : Memory) : (s.setFrame x).bg = s.bg := rfl
@[simp] theorem State.setFrame_spr (s : State) (x : Memory) : (s.setFrame x).spr = s.spr := rfl
@[simp] theorem State.setFrame_eval (s : State) (x : Memory) : (s.setFrame x).eval = s.eval := rfl
@[simp] theorem State.setFrame_seq (s : State) (x : Memory) : (s.setFrame x).seq = s.seq := rfl
@[simp] theorem State.setFrame_nmi (s : State) (x : Memory) : (s.setFrame x).nmi = s.nmi := rfl
@[simp] theorem State.setFrame_mir (s : State) (x : Memory) : (s.setFrame x).mir = s.mir := rfl
@[simp] theorem State.setFrame_nametable (s : State) (x : Memory) : (s.setFrame x).nametable = s.nametable := rfl
@[simp] theorem State.setFrame_palette (s : State) (x : Memory) : (s.setFrame x).palette = s.palette := rfl
@[simp] theorem State.setFrame_oam (s : State) (x : Memory) : (s.setFrame x).oam = s.oam := rfl
@[simp] theorem State.setFrame_frame (s : State) (x : Memory) : (s.setFrame x).frame = x := rfl
@[simp] theorem State.setFrame_cart (s : State) (x : Memory) : (s.setFrame x).cart = s.cart := rfl
@[simp] theorem State.setFrame_cartLog (s : State) (x : Memory) : (s.setFrame x).cartLog = s.cartLog := rfl
@[simp] theorem State.setFrame_params (s : State) (x : Memory) : (s.setFrame x).params = s.params := rfl
@[simp] theorem State.setFrame_stimuli (s : State) (x : Memory) : (s.setFrame x).stimuli = s.stimuli := rfl
@[simp] theorem State.setFrame_answer (s : State) (x : Memory) : (s.setFrame x).answer = s.answer := rfl

@[simp] theorem State.setAnswer_regs (s : State) (x : Answer) : (s.setAnswer x).regs = s.regs := rfl
@[simp] theorem State.setAnswer_bg (s : State) (x : Answer) : (s.setAnswer x).bg = s.bg := rfl
@[simp] theorem State.setAnswer_spr (s : State) (x : Answer) : (s.setAnswer x).spr = s.spr := rfl
@[simp] theorem State.setAnswer_eval (s : State) (x : Answer) : (s.setAnswer x).eval = s.eval := rfl
@[simp] theorem State.setAnswer_seq (s : State) (x : Answer) : (s.setAnswer x).seq = s.seq := rfl
@[simp] theorem State.setAnswer_nmi (s : State) (x : Answer) : (s.setAnswer x).nmi = s.nmi := rfl
@[simp] theorem State.setAnswer_mir (s : State) (x : Answer) : (s.setAnswer x).mir = s.mir := rfl
@[simp] theorem State.setAnswer_nametable (s : State) (x : Answer) : (s.setAnswer x).nametable = s.nametable := rfl
@[simp] theorem State.setAnswer_palette (s : State) (x : Answer) : (s.setAnswer x).palette = s.palette := rfl
@[simp] theorem State.setAnswer_oam (s : State) (x : Answer) : (s.setAnswer x).oam = s.oam := rfl
@[simp] theorem State.setAnswer_frame (s : State) (x : Answer) : (s.setAnswer x).frame = s.frame := rfl
@[simp] theorem State.setAnswer_cart (s : State) (x : Answer) : (s.setAnswer x).cart = s.cart := rfl
@[simp] theorem State.setAnswer_cartLog (s : State) (x : Answer) : (s.setAnswer x).cartLog = s.cartLog := rfl
@[simp] theorem State.setAnswer_params (s : State) (x : Answer) : (s.setAnswer x).params = s.params := rfl
@[simp] theorem State.setAnswer_stimuli (s : State) (x : Answer) : (s.setAnswer x).stimuli = s.stimuli := rfl
@[simp] theorem State.setAnswer_answer (s : State) (x : Answer) : (s.setAnswer x).answer = x := rfl

@[simp] theorem State.setCart_regs (s : State) (c : Cart) (k : CartCall) : (s.setCart c k).regs = s.regs := rfl
@[simp] theorem State.setCart_bg (s : State) (c : Cart) (k : CartCall) : (s.setCart c k).bg = s.bg := rfl
@[simp] theorem State.setCart_spr (s : State) (c : Cart) (k : CartCall) : (s.setCart c k).spr = s.spr := rfl
@[simp] theorem State.setCart_eval (s : State) (c : Cart) (k : CartCall) : (s.setCart c k).eval = s.eval := rfl
@[simp] theorem State.setCart_seq (s : State) (c : Cart) (k : CartCall) : (s.setCart c k).seq = s.seq := rfl
@[simp] theorem State.setCart_nmi (s : State) (c : Cart) (k : CartCall) : (s.setCart c k).nmi = s.nmi := rfl
@[simp] theorem State.setCart_mir (s : State) (c : Cart) (k : CartCall) : (s.setCart c k).mir = s.mir := rfl
@[simp] theorem State.setCart_nametable (s : State) (c : Cart) (k : CartCall) : (s.setCart c k).nametable = s.nametable := rfl
@[simp] theorem State.setCart_palette (s : State) (c : Cart) (k : CartCall) : (s.setCart c k).palette = s.palette := rfl
@[simp] theorem State.setCart_oam (s : State) (c : Cart) (k : CartCall) : (s.setCart c k).oam = s.oam := rfl
@[simp] theorem State.setCart_frame (s : State) (c : Cart) (k : CartCall) : (s.setCart c k).frame = s.frame := rfl
@[simp] theorem State.setCart_cart (s : State) (c : Cart) (k : CartCall) : (s.setCart c k).cart = c := rfl
@[simp] theorem State.setCart_cartLog (s : State) (c : Cart) (k : CartCall) : (s.setCart c k).cartLog = k :: s.cartLog := rfl
@[simp] theorem State.setCart_params (s : State) (c : Cart) (k : CartCall) : (s.setCart c k).params = s.params := rfl
@[simp] theorem State.setCart_stimuli (s : State) (c : Cart) (k : CartCall) : (s.setCart c k).stimuli = s.stimuli := rfl
@[simp] theorem State.setCart_answer (s : State) (c : Cart) (k : CartCall) : (s.setCart c k).answer = s.answer := rfl

@[simp] theorem State.setRegs_self (s : State) : s.setRegs s.regs = s := rfl
@[simp] theorem State.setRegs_setRegs (s : State) (x y : Regs) : (s.setRegs x).setRegs y = s.setRegs y := rfl
@[simp] theorem State.setBg_self (s : State) : s.setBg s.bg = s := rfl
@[simp] theorem State.setBg_setBg (s : State) (x y : BgPipe) : (s.setBg x).setBg y = s.setBg y := rfl
@[simp] theorem State.setSpr_self (s : State) : s.setSpr s.spr = s := rfl
@[simp] theorem State.setSpr_setSpr (s : State) (x y : SpriteLine) : (s.setSpr x).setSpr y = s.setSpr y := rfl
@[simp] theorem State.setEval_self (s : State) : s.setEval s.eval = s := rfl
@[simp] theorem State.setEval_setEval (s : State) (x y : SpriteEval) : (s.setEval x).setEval y = s.setEval y := rfl
@[simp] theorem State.setSeq_self (s : State) : s.setSeq s.seq = s := rfl
@[simp] theorem State.setSeq_setSeq (s : State) (x y : Sequencer) : (s.setSeq x).setSeq y = s.setSeq y := rfl
@[simp] theorem State.setNmi_self (s : State) : s.setNmi s.nmi = s := rfl
@[simp] theorem State.setNmi_setNmi (s : State) (x y : NmiState) : (s.setNmi x).setNmi y = s.setNmi y := rfl
@[simp] theorem State.setMir_self (s : State) : s.setMir s.mir = s := rfl
@[simp] theorem State.setMir_setMir (s : State) (x y : MirrorState) : (s.setMir x).setMir y = s.setMir y := rfl
@[simp] theorem State.setNametable_self (s : State) : s.setNametable s.nametable = s := rfl
@[simp] theorem State.setNametable_setNametable (s : State) (x y : Memory) : (s.setNametable x).setNametable y = s.setNametable y := rfl
@[simp] theorem State.setPalette_self (s : State) : s.setPalette s.palette = s := rfl
@[simp] theorem State.setPalette_setPalette (s : State) (x y : Vector (BitVec 6) 32) : (s.setPalette x).setPalette y = s.setPalette y := rfl
@[simp] theorem State.setOam_self (s : State) : s.setOam s.oam = s := rfl
@[simp] theorem State.setOam_setOam (s : State) (x y : Memory) : (s.setOam x).setOam y = s.setOam y := rfl
@[simp] theorem State.setFrame_self (s : State) : s.setFrame s.frame = s := rfl
@[simp] theorem State.setFrame_setFrame (s : State) (x y : Memory) : (s.setFrame x).setFrame y = s.setFrame y := rfl
@[simp] theorem State.setAnswer_self (s : State) : s.setAnswer s.answer = s := rfl
@[simp] theorem State.setAnswer_setAnswer (s : State) (x y : Answer) : (s.setAnswer x).setAnswer y = s.setAnswer y := rfl

end Sys2Proof.Machine
end

