-- ==== Sys2Proof/Laws/Bus.lean ====
section
/-! SUPPORT. What the PPU bus, the cartridge and the NMI operations can do, said once: inversion and frame lemmas that
later proofs cite instead of unfolding. -/
namespace Sys2Proof.Machine

/-- `t` differs from `s` in the record of cartridge calls and the cached mirroring mode only: all a bus read can do. -/
def SameButCalls (s t : State) : Prop :=
  ∃ log m, t = { s with cartLog := log, mir := { s.mir with cached := m } }

theorem SameButCalls.refl (s : State) : SameButCalls s s := ⟨s.cartLog, s.mir.cached, rfl⟩

theorem SameButCalls.trans {s t u : State} (h : SameButCalls s t) (k : SameButCalls t u) : SameButCalls s u := by
  obtain ⟨l, m, rfl⟩ := h
  obtain ⟨l', m', rfl⟩ := k
  exact ⟨l', m', rfl⟩

theorem queryMirroring_same (s : State) : SameButCalls s (queryMirroring s) := by
  unfold queryMirroring
  split
  · split
    · exact ⟨_, _, rfl⟩
    · exact ⟨_, _, rfl⟩
  · exact SameButCalls.refl s

theorem cartPpuRead_cases {a : PatternAddr} {s t : State} {b : Byte} (h : cartPpuRead a s = .ok (b, t)) :
    cartReadAnswer s a = some b ∧ t = s.setCart s.cart (.ppuRead a) := by
  unfold cartPpuRead at h
  split at h
  · rename_i x hx
    cases h
    exact ⟨hx, rfl⟩
  · simp [raiseMapperFault] at h

theorem cartPpuRead_total {a : PatternAddr} {s : State} (h : s.cart.NeverFails) :
    ∃ b, cartPpuRead a s = .ok (b, s.setCart s.cart (.ppuRead a)) := by
  unfold cartPpuRead cartReadAnswer
  cases hc : s.cart with
  | testT0 board => exact ⟨_, rfl⟩
  | mapper id =>
    simp only [Cart.NeverFails, hc] at h
    obtain ⟨b, hb⟩ := Option.isSome_iff_exists.mp (h s.cartLog a)
    exact ⟨b, by simp [hb]⟩

/-- A bus read changes nothing but the record of calls and, under dynamic mirroring, the cached mode. -/
theorem ppuRead_same {a : BusAddr} {s t : State} {b : Byte} (h : ppuRead a s = .ok (b, t)) : SameButCalls s t := by
  unfold ppuRead at h
  split at h
  · exact ⟨_, s.mir.cached, (cartPpuRead_cases h).2⟩
  · split at h
    · cases h; exact queryMirroring_same s
    · cases h; exact SameButCalls.refl s

/-- A bus read answers when the cartridge never fails, or at any address outside the pattern region. -/
theorem ppuRead_total {a : BusAddr} {s : State} (h : s.cart.NeverFails ∨ 0x2000 ≤ a.toNat) :
    ∃ b t, ppuRead a s = .ok (b, t) := by
  unfold ppuRead
  split
  · rename_i ha
    obtain ⟨b, hb⟩ := cartPpuRead_total (a := a.setWidth 13) (h.resolve_right (by omega))
    exact ⟨b, _, hb⟩
  · split
    · exact ⟨_, _, rfl⟩
    · exact ⟨_, _, rfl⟩

/-- The only way a bus read can fail is `MapperFault`. -/
theorem ppuRead_error {a : BusAddr} {s : State} {f : Fault} (_h : ppuRead a s = .error f) : f = .mapperFault := by
  cases f; rfl

theorem fetchInto_cases {a : BusAddr} {k : Byte → State → State} {s t : State} (h : fetchInto a k s = .ok t) :
    ∃ b q, ppuRead a s = .ok (b, q) ∧ t = k b q := by
  unfold fetchInto at h
  split at h
  · rename_i b q hq
    cases h
    exact ⟨b, q, hq, rfl⟩
  · cases h

theorem fetchInto_total {a : BusAddr} {k : Byte → State → State} {s : State}
    (h : s.cart.NeverFails ∨ 0x2000 ≤ a.toNat) : ∃ t, fetchInto a k s = .ok t := by
  obtain ⟨b, q, hq⟩ := ppuRead_total h
  exact ⟨k b q, by simp [fetchInto, hq]⟩

/-- A bus write changes the cartridge, one nametable byte or one palette entry, and what a bus read may change. -/
theorem ppuWrite_cases (a : BusAddr) (b : Byte) (s : State) :
    (∃ c log, a.toNat < 0x2000 ∧ ppuWrite a b s = { s with cart := c, cartLog := log }) ∨
    (0x2000 ≤ a.toNat ∧ a.toNat < 0x3F00 ∧ ∃ q, q = queryMirroring s ∧
      ppuWrite a b s = q.setNametable (Memory.write q.nametable (nametableCell q.mir.cached a) b)) ∨
    (0x3F00 ≤ a.toNat ∧ ppuWrite a b s = s.setPalette (paletteSet s.palette (palIndex a) (b.setWidth 6))) := by
  unfold ppuWrite
  split
  · rename_i ha
    left
    unfold cartPpuWrite
    split
    · exact ⟨_, _, ha, rfl⟩
    · exact ⟨_, _, ha, rfl⟩
  · right
    split
    · left
      exact ⟨by omega, by assumption, _, rfl, rfl⟩
    · right
      exact ⟨by omega, rfl⟩

/-- Every nametable address leads to a byte of the four pages. -/
theorem nametableCell_lt (m : Mirroring) (a : BusAddr) : nametableCell m a < nametableSize := by
  unfold nametableCell nametableKey nametableSize
  have h1 := (pageOf m (a.extractLsb' 10 2)).isLt
  have h2 := (a.setWidth 10).isLt
  omega

/-- The cartridge's answers depend on the cartridge and the record of its calls alone. -/
theorem cartReadAnswer_congr {s t : State} (hc : t.cart = s.cart) (hl : t.cartLog = s.cartLog) (a : PatternAddr) :
    cartReadAnswer t a = cartReadAnswer s a := by
  unfold cartReadAnswer
  rw [hc, hl]

theorem cartMirroringAnswer_congr {s t : State} (hc : t.cart = s.cart) (hl : t.cartLog = s.cartLog) :
    cartMirroringAnswer t = cartMirroringAnswer s := by
  unfold cartMirroringAnswer
  rw [hc, hl]

/-! ## The NMI operations -/

@[simp] theorem nmiChange_occurred (n : NmiState) : (nmiChange n).occurred = n.occurred := by
  unfold nmiChange; split <;> rfl
@[simp] theorem nmiChange_output (n : NmiState) : (nmiChange n).output = n.output := by
  unfold nmiChange; split <;> rfl
@[simp] theorem nmiChange_flag (n : NmiState) : (nmiChange n).flag = n.flag := by
  unfold nmiChange; split <;> rfl
@[simp] theorem nmiChange_suppressVblank (n : NmiState) : (nmiChange n).suppressVblank = n.suppressVblank := by
  unfold nmiChange; split <;> rfl
@[simp] theorem nmiChange_suppressNmi (n : NmiState) : (nmiChange n).suppressNmi = n.suppressNmi := by
  unfold nmiChange; split <;> rfl
theorem nmiChange_previous (n : NmiState) : (nmiChange n).previous = nmiLine n := by
  unfold nmiChange; split <;> rfl
theorem nmiLine_nmiChange (n : NmiState) : nmiLine (nmiChange n) = nmiLine n := by
  simp [nmiLine]

theorem nmiChange_range {n : NmiState} (h : n.InRange) : (nmiChange n).InRange := by
  unfold nmiChange
  split
  · exact ⟨le_refl _, le_refl _, fun _ => Nat.succ_pos 13⟩
  · exact h

theorem nmiCounterStep_frame (n : NmiState) :
    (nmiCounterStep n).occurred = n.occurred ∧ (nmiCounterStep n).output = n.output ∧
      (nmiCounterStep n).previous = n.previous ∧ (nmiCounterStep n).suppressVblank = n.suppressVblank ∧
      (nmiCounterStep n).suppressNmi = n.suppressNmi := by
  unfold nmiCounterStep
  repeat' split
  all_goals exact ⟨rfl, rfl, rfl, rfl, rfl⟩

theorem nmiCounterStep_range {n : NmiState} (h : n.InRange) : (nmiCounterStep n).InRange := by
  obtain ⟨h1, h2, h3⟩ := h
  unfold nmiCounterStep
  split
  · split
    · split
      · exact ⟨h1, by show n.hold - 1 ≤ _; omega, fun _ => by assumption⟩
      · exact ⟨Nat.zero_le _, Nat.zero_le _, fun hh => absurd hh (Nat.lt_irrefl 0)⟩
    · split
      · exact ⟨Nat.zero_le _, h2, fun hh => absurd hh (by show ¬ 0 < n.hold; omega)⟩
      · exact ⟨by show n.delay - 1 ≤ _; omega, h2, fun hh => absurd hh (by show ¬ 0 < n.hold; omega)⟩
  · exact ⟨h1, h2, h3⟩

theorem cancelNmi_range (n : NmiState) : (cancelNmi n).InRange :=
  ⟨Nat.zero_le _, Nat.zero_le _, fun hh => absurd hh (Nat.lt_irrefl 0)⟩

/-! ## The status bits -/

theorem bit_setBit_same (x : Byte) (i : Nat) (b : Bool) (h : i < 8) : bit (setBit x i b) i = b := by
  unfold setBit bit
  cases b
  · simp [h]
  · simp [h]

theorem bit_setBit_other (x : Byte) (i j : Nat) (b : Bool) (h : j ≠ i) : bit (setBit x i b) j = bit x j := by
  unfold setBit bit
  cases b
  · by_cases hj : j < 8
    · by_cases hij : j < i
      · simp [hj, hij]
      · have : j - i ≠ 0 := by omega
        simp [hj, hij, this]
    · simp [hj, BitVec.getLsbD_of_ge x j (by omega)]
  · by_cases hj : j < 8
    · by_cases hij : j < i
      · simp [hij]
      · have : j - i ≠ 0 := by omega
        simp [hij, this]
    · simp [BitVec.getLsbD_of_ge x j (by omega), hj]

end Sys2Proof.Machine
end

