-- ==== Sys2Proof/Laws/Memory.lean ====
section
/-! SUPPORT. The memory laws: a read after a write, and the canonical form, which every write keeps and which makes
equal memories equal lists. -/
namespace Sys2Proof.Machine

theorem Memory.read_cons_same (a : Nat) (b : Byte) (m : Memory) (h : Memory.read m a = Memory.unlisted) :
    Memory.read (Memory.cons a b m) a = b := by
  unfold Memory.cons
  split
  · rename_i hb; rw [h, hb]
  · simp [Memory.read]

theorem Memory.read_cons_other (a a' : Nat) (b : Byte) (m : Memory) (h : a' ≠ a) :
    Memory.read (Memory.cons a b m) a' = Memory.read m a' := by
  unfold Memory.cons
  split
  · rfl
  · simp [Memory.read, Ne.symm h]

/-- Below the least listed address everything is unlisted. -/
theorem Memory.read_below {size lo : Nat} {m : Memory} (h : Memory.wfFrom size lo m = true) {a : Nat} (ha : a < lo) :
    Memory.read m a = Memory.unlisted := by
  induction m generalizing lo with
  | nil => rfl
  | cons c m ih =>
    obtain ⟨k, x⟩ := c
    simp only [Memory.wfFrom, Bool.and_eq_true, decide_eq_true_eq] at h
    have hk : k ≠ a := by omega
    simp only [Memory.read, if_neg hk]
    exact ih h.2 (by omega)

/-- The canonical form from a lower bound is the canonical form from any smaller one. -/
theorem Memory.wfFrom_mono {size lo lo' : Nat} {m : Memory} (h : Memory.wfFrom size lo m = true) (hl : lo' ≤ lo) :
    Memory.wfFrom size lo' m = true := by
  cases m with
  | nil => rfl
  | cons c m =>
    obtain ⟨k, x⟩ := c
    simp only [Memory.wfFrom, Bool.and_eq_true, decide_eq_true_eq] at h ⊢
    exact ⟨⟨⟨by omega, h.1.1.2⟩, h.1.2⟩, h.2⟩

theorem Memory.wfFrom_cons {size lo a : Nat} {b : Byte} {m : Memory} (ha : lo ≤ a) (hs : a < size)
    (h : Memory.wfFrom size (a + 1) m = true) : Memory.wfFrom size lo (Memory.cons a b m) = true := by
  unfold Memory.cons
  split
  · exact Memory.wfFrom_mono h (by omega)
  · rename_i hb
    simp [Memory.wfFrom, ha, hs, h, hb]

theorem Memory.wfFrom_write {size lo a : Nat} {b : Byte} {m : Memory} (h : Memory.wfFrom size lo m = true)
    (ha : lo ≤ a) (hs : a < size) : Memory.wfFrom size lo (Memory.write m a b) = true := by
  induction m generalizing lo with
  | nil => exact Memory.wfFrom_cons ha hs rfl
  | cons c m ih =>
    obtain ⟨k, x⟩ := c
    have h' := h
    simp only [Memory.wfFrom, Bool.and_eq_true, decide_eq_true_eq] at h'
    obtain ⟨⟨⟨h1, h2⟩, h3⟩, h4⟩ := h'
    unfold Memory.write
    split
    · refine Memory.wfFrom_cons ha hs ?_
      simp only [Memory.wfFrom, Bool.and_eq_true, decide_eq_true_eq]
      exact ⟨⟨⟨by omega, h2⟩, h3⟩, h4⟩
    · split
      · rename_i hk
        subst hk
        exact Memory.wfFrom_cons ha hs h4
      · simp only [Memory.wfFrom, Bool.and_eq_true, decide_eq_true_eq]
        exact ⟨⟨⟨h1, h2⟩, h3⟩, ih h4 (by omega)⟩

/-- Every write inside the memory keeps the canonical form. -/
theorem Memory.wf_write {size a : Nat} {b : Byte} {m : Memory} (h : Memory.wf size m = true) (hs : a < size) :
    Memory.wf size (Memory.write m a b) = true :=
  Memory.wfFrom_write h (Nat.zero_le a) hs

@[simp] theorem Memory.wf_nil (size : Nat) : Memory.wf size [] = true := rfl

theorem Memory.read_wfFrom_write_same {size lo a : Nat} {b : Byte} {m : Memory} (h : Memory.wfFrom size lo m = true) :
    Memory.read (Memory.write m a b) a = b := by
  induction m generalizing lo with
  | nil => exact Memory.read_cons_same a b [] rfl
  | cons c m ih =>
    obtain ⟨k, x⟩ := c
    have h' := h
    simp only [Memory.wfFrom, Bool.and_eq_true, decide_eq_true_eq] at h'
    obtain ⟨⟨⟨h1, h2⟩, h3⟩, h4⟩ := h'
    unfold Memory.write
    split
    · rename_i hk
      refine Memory.read_cons_same a b _ ?_
      have : k ≠ a := by omega
      simp only [Memory.read, if_neg this]
      exact Memory.read_below h4 (by omega)
    · split
      · rename_i hk
        subst hk
        exact Memory.read_cons_same k b m (Memory.read_below h4 (by omega))
      · rename_i hk
        simp only [Memory.read, if_neg hk]
        exact ih h4

/-- A read after a write to the same address gives the byte written. -/
theorem Memory.read_write_same {size a : Nat} {b : Byte} {m : Memory} (h : Memory.wf size m = true) :
    Memory.read (Memory.write m a b) a = b :=
  Memory.read_wfFrom_write_same h

/-- A write leaves every other address alone, whatever the memory. -/
theorem Memory.read_write_other {a a' : Nat} (b : Byte) (m : Memory) (hne : a' ≠ a) :
    Memory.read (Memory.write m a b) a' = Memory.read m a' := by
  induction m with
  | nil => exact Memory.read_cons_other a a' b [] hne
  | cons c m ih =>
    obtain ⟨k, x⟩ := c
    unfold Memory.write
    split
    · exact Memory.read_cons_other a a' b _ hne
    · split
      · rename_i hk
        subst hk
        rw [Memory.read_cons_other k a' b m hne]
        simp [Memory.read, Ne.symm hne]
      · simp only [Memory.read]
        rw [ih]

/-- Two memories in canonical form that read alike are the same list. -/
theorem Memory.eq_of_read {size lo : Nat} {m m' : Memory} (h : Memory.wfFrom size lo m = true)
    (h' : Memory.wfFrom size lo m' = true) (heq : ∀ a, Memory.read m a = Memory.read m' a) : m = m' := by
  induction m generalizing lo m' with
  | nil =>
    cases m' with
    | nil => rfl
    | cons c m' =>
      obtain ⟨k, x⟩ := c
      have hk := heq k
      simp only [Memory.wfFrom, Bool.and_eq_true, bne_iff_ne] at h'
      simp [Memory.read] at hk
      exact absurd hk.symm h'.1.2
  | cons c m ih =>
    obtain ⟨k, x⟩ := c
    have h0 := h
    simp only [Memory.wfFrom, Bool.and_eq_true, decide_eq_true_eq, bne_iff_ne] at h
    cases m' with
    | nil =>
      have hk := heq k
      simp [Memory.read] at hk
      exact absurd hk h.1.2
    | cons c' m' =>
      obtain ⟨k', x'⟩ := c'
      have h0' := h'
      simp only [Memory.wfFrom, Bool.and_eq_true, decide_eq_true_eq, bne_iff_ne] at h'
      have hkk : k = k' := by
        rcases Nat.lt_trichotomy k k' with hlt | he | hgt
        · exfalso
          have hk := heq k
          have : Memory.read ((k', x') :: m') k = Memory.unlisted :=
            Memory.read_below (lo := k') (size := size)
              (by simp only [Memory.wfFrom, Bool.and_eq_true, decide_eq_true_eq, bne_iff_ne]
                  exact ⟨⟨⟨le_refl _, h'.1.1.2⟩, h'.1.2⟩, h'.2⟩) hlt
          rw [this] at hk
          simp [Memory.read] at hk
          exact h.1.2 hk
        · exact he
        · exfalso
          have hk := heq k'
          have : Memory.read ((k, x) :: m) k' = Memory.unlisted :=
            Memory.read_below (lo := k) (size := size)
              (by simp only [Memory.wfFrom, Bool.and_eq_true, decide_eq_true_eq, bne_iff_ne]
                  exact ⟨⟨⟨le_refl _, h.1.1.2⟩, h.1.2⟩, h.2⟩) hgt
          rw [this] at hk
          simp [Memory.read] at hk
          exact h'.1.2 hk.symm
      subst hkk
      have hx : x = x' := by have hk := heq k; simpa [Memory.read] using hk
      subst hx
      congr 1
      refine ih h.2 h'.2 fun a => ?_
      by_cases ha : k = a
      · subst ha
        rw [Memory.read_below h.2 (by omega), Memory.read_below h'.2 (by omega)]
      · have hk := heq a
        simpa [Memory.read, ha] using hk

/-- The burst keeps the canonical form of OAM. -/
theorem oamBurst_wf {oam : Memory} (a : Byte) (bs : List Byte) (h : Memory.wf oamSize oam = true) :
    Memory.wf oamSize (oamBurst oam a bs) = true := by
  induction bs generalizing oam a with
  | nil => exact h
  | cons b bs ih => exact ih (a + 1#8) (Memory.wf_write h a.isLt)

end Sys2Proof.Machine
end

