-- ==== Sys2Proof/Laws/Operands.lean ====
section
/-! SUPPORT. The fields of the assembled address registers, and the bus address as a number. -/
namespace Sys2Proof.Machine

/-- A field as a number. -/
theorem field_toNat {w : Nat} (x : BitVec w) (a n : Nat) : (x.extractLsb' a n).toNat = x.toNat / 2 ^ a % 2 ^ n := by
  rw [BitVec.extractLsb'_toNat, Nat.shiftRight_eq_div_pow]

theorem busAddr_toNat (v : VramAddr) : (busAddr v).toNat = v.toNat % 0x4000 := by
  simp [busAddr, BitVec.toNat_setWidth]

theorem vramStep_toNat (ctrl : Byte) (v : VramAddr) :
    (vramStep ctrl v).toNat = (v.toNat + if bit ctrl 2 then 32 else 1) % 0x8000 := by
  unfold vramStep
  split <;> simp [BitVec.toNat_add]

theorem tFromCtrl_fineY (t : VramAddr) (d : Byte) : (tFromCtrl t d).extractLsb' 12 3 = t.extractLsb' 12 3 := by
  unfold tFromCtrl wide
  ext i hi
  interval_cases i <;> simp

theorem tFromCtrl_nt (t : VramAddr) (d : Byte) : (tFromCtrl t d).extractLsb' 10 2 = d.extractLsb' 0 2 := by
  unfold tFromCtrl wide
  ext i hi
  interval_cases i <;> simp

theorem tFromCtrl_low (t : VramAddr) (d : Byte) : (tFromCtrl t d).extractLsb' 0 10 = t.extractLsb' 0 10 := by
  unfold tFromCtrl wide
  ext i hi
  interval_cases i <;> simp

theorem tFromScrollX_coarseX (t : VramAddr) (d : Byte) : (tFromScrollX t d).extractLsb' 0 5 = d.extractLsb' 3 5 := by
  unfold tFromScrollX wide
  ext i hi
  interval_cases i <;> simp

theorem tFromScrollX_rest (t : VramAddr) (d : Byte) : (tFromScrollX t d).extractLsb' 5 10 = t.extractLsb' 5 10 := by
  unfold tFromScrollX wide
  ext i hi
  interval_cases i <;> simp

theorem tFromScrollY_coarseY (t : VramAddr) (d : Byte) : (tFromScrollY t d).extractLsb' 5 5 = d.extractLsb' 3 5 := by
  unfold tFromScrollY wide
  ext i hi
  interval_cases i <;> simp

theorem tFromScrollY_fineY (t : VramAddr) (d : Byte) : (tFromScrollY t d).extractLsb' 12 3 = d.extractLsb' 0 3 := by
  unfold tFromScrollY wide
  ext i hi
  interval_cases i <;> simp

theorem tFromScrollY_coarseX (t : VramAddr) (d : Byte) : (tFromScrollY t d).extractLsb' 0 5 = t.extractLsb' 0 5 := by
  unfold tFromScrollY wide
  ext i hi
  interval_cases i <;> simp

theorem tFromScrollY_nt (t : VramAddr) (d : Byte) : (tFromScrollY t d).extractLsb' 10 2 = t.extractLsb' 10 2 := by
  unfold tFromScrollY wide
  ext i hi
  interval_cases i <;> simp

theorem tFromAddrHigh_high (t : VramAddr) (d : Byte) : (tFromAddrHigh t d).extractLsb' 8 6 = d.extractLsb' 0 6 := by
  unfold tFromAddrHigh wide
  ext i hi
  interval_cases i <;> simp

theorem tFromAddrHigh_low (t : VramAddr) (d : Byte) : (tFromAddrHigh t d).extractLsb' 0 8 = t.extractLsb' 0 8 := by
  unfold tFromAddrHigh wide
  ext i hi
  interval_cases i <;> simp

theorem tFromAddrLow_high (t : VramAddr) (d : Byte) : (tFromAddrLow t d).extractLsb' 8 7 = t.extractLsb' 8 7 := by
  unfold tFromAddrLow wide
  ext i hi
  interval_cases i <;> simp

theorem tFromAddrLow_low (t : VramAddr) (d : Byte) : (tFromAddrLow t d).extractLsb' 0 8 = d.extractLsb' 0 8 := by
  unfold tFromAddrLow wide
  ext i hi
  interval_cases i <;> simp

theorem transferX_coarseX (v t : VramAddr) : (transferX v t).extractLsb' 0 5 = t.extractLsb' 0 5 := by
  unfold transferX
  ext i hi
  interval_cases i <;> simp

theorem transferY_coarseX (v t : VramAddr) : (transferY v t).extractLsb' 0 5 = v.extractLsb' 0 5 := by
  unfold transferY
  ext i hi
  interval_cases i <;> simp

theorem transferX_coarseY (v t : VramAddr) : (transferX v t).extractLsb' 5 5 = v.extractLsb' 5 5 := by
  unfold transferX
  ext i hi
  interval_cases i <;> simp

theorem transferY_coarseY (v t : VramAddr) : (transferY v t).extractLsb' 5 5 = t.extractLsb' 5 5 := by
  unfold transferY
  ext i hi
  interval_cases i <;> simp

theorem transferX_ntx (v t : VramAddr) : (transferX v t).extractLsb' 10 1 = t.extractLsb' 10 1 := by
  unfold transferX
  ext i hi
  interval_cases i <;> simp

theorem transferY_ntx (v t : VramAddr) : (transferY v t).extractLsb' 10 1 = v.extractLsb' 10 1 := by
  unfold transferY
  ext i hi
  interval_cases i <;> simp

theorem transferX_nty (v t : VramAddr) : (transferX v t).extractLsb' 11 1 = v.extractLsb' 11 1 := by
  unfold transferX
  ext i hi
  interval_cases i <;> simp

theorem transferY_nty (v t : VramAddr) : (transferY v t).extractLsb' 11 1 = t.extractLsb' 11 1 := by
  unfold transferY
  ext i hi
  interval_cases i <;> simp

theorem transferX_fineY (v t : VramAddr) : (transferX v t).extractLsb' 12 3 = v.extractLsb' 12 3 := by
  unfold transferX
  ext i hi
  interval_cases i <;> simp

theorem transferY_fineY (v t : VramAddr) : (transferY v t).extractLsb' 12 3 = t.extractLsb' 12 3 := by
  unfold transferY
  ext i hi
  interval_cases i <;> simp

theorem tFromAddrHigh_top (t : VramAddr) (d : Byte) : (tFromAddrHigh t d).extractLsb' 14 1 = 0#1 := by
  unfold tFromAddrHigh wide
  ext i hi
  interval_cases i
  simp

end Sys2Proof.Machine
end

