-- ==== Sys2Proof/Laws/PerInstr.lean ====
section
/-! SUPPORT. The per-instruction family `Encodes`: the word of an operation lies in its row of the operation table
(30_encoding.md R107), and its payload has the length that row gives (R109). -/
namespace Sys2Proof.Laws.Encodes

/-- The row's mask. -/
def rowMask (i : Instr) : Word16 :=
  match i with
  | .wPpuCtrl _ => 0xFF00#16
  | .wPpuMask _ => 0xFF00#16
  | .wPpuStatus _ => 0xFF00#16
  | .wOamAddr _ => 0xFF00#16
  | .wOamData _ => 0xFF00#16
  | .wPpuScroll _ => 0xFF00#16
  | .wPpuAddr _ => 0xFF00#16
  | .wPpuData _ => 0xFF00#16
  | .rPpuCtrl => 0xFF00#16
  | .rPpuMask => 0xFF00#16
  | .rPpuStatus => 0xFF00#16
  | .rOamAddr => 0xFF00#16
  | .rOamData => 0xFF00#16
  | .rPpuScroll => 0xFF00#16
  | .rPpuAddr => 0xFF00#16
  | .rPpuData => 0xFF00#16
  | .tick => 0xFFFF#16
  | .reset => 0xFFFF#16
  | .nmiAck => 0xFFFF#16
  | .dma _ _ => 0xFF00#16
  | .frameAck => 0xFFFF#16

/-- The row's match. -/
def rowMatch (i : Instr) : Word16 :=
  match i with
  | .wPpuCtrl _ => 0x0000#16
  | .wPpuMask _ => 0x0100#16
  | .wPpuStatus _ => 0x0200#16
  | .wOamAddr _ => 0x0300#16
  | .wOamData _ => 0x0400#16
  | .wPpuScroll _ => 0x0500#16
  | .wPpuAddr _ => 0x0600#16
  | .wPpuData _ => 0x0700#16
  | .rPpuCtrl => 0x0800#16
  | .rPpuMask => 0x0900#16
  | .rPpuStatus => 0x0A00#16
  | .rOamAddr => 0x0B00#16
  | .rOamData => 0x0C00#16
  | .rPpuScroll => 0x0D00#16
  | .rPpuAddr => 0x0E00#16
  | .rPpuData => 0x0F00#16
  | .tick => 0x1000#16
  | .reset => 0x2000#16
  | .nmiAck => 0x3000#16
  | .dma _ _ => 0x4000#16
  | .frameAck => 0x5000#16

/-- The row's payload length. -/
def rowPayload (i : Instr) : Nat :=
  match i with
  | .wPpuCtrl _ => 0
  | .wPpuMask _ => 0
  | .wPpuStatus _ => 0
  | .wOamAddr _ => 0
  | .wOamData _ => 0
  | .wPpuScroll _ => 0
  | .wPpuAddr _ => 0
  | .wPpuData _ => 0
  | .rPpuCtrl => 0
  | .rPpuMask => 0
  | .rPpuStatus => 0
  | .rOamAddr => 0
  | .rOamData => 0
  | .rPpuScroll => 0
  | .rPpuAddr => 0
  | .rPpuData => 0
  | .tick => 0
  | .reset => 0
  | .nmiAck => 0
  | .dma _ _ => 256
  | .frameAck => 0

/-- The word of `i` matches its row, and a well-formed `i` has its row's payload. -/
def Statement (i : Instr) : Prop :=
  (encode i).word &&& rowMask i = rowMatch i ∧ (i.wellFormed = true → (encode i).payload.length = rowPayload i)

/-- A bus word keeps its `rw` and `reg` bits whatever its data byte. -/
theorem busWord_mask : ∀ d : Byte, busWord 0 d &&& 0xFF00#16 = 0x0000#16 ∧ busWord 1 d &&& 0xFF00#16 = 0x0100#16 ∧
    busWord 2 d &&& 0xFF00#16 = 0x0200#16 ∧ busWord 3 d &&& 0xFF00#16 = 0x0300#16 ∧
    busWord 4 d &&& 0xFF00#16 = 0x0400#16 ∧ busWord 5 d &&& 0xFF00#16 = 0x0500#16 ∧
    busWord 6 d &&& 0xFF00#16 = 0x0600#16 ∧ busWord 7 d &&& 0xFF00#16 = 0x0700#16 := by
  decide

/-- A `DMA` word keeps its kind and zero bits whatever its page. -/
theorem dmaWord_mask : ∀ p : Byte, BitVec.ofNat 16 (0x4000 + p.toNat) &&& 0xFF00#16 = 0x4000#16 := by
  decide

theorem wPpuCtrl (d : Byte) : Statement (.wPpuCtrl d) := ⟨(busWord_mask d).1, fun _ => rfl⟩
theorem wPpuMask (d : Byte) : Statement (.wPpuMask d) := ⟨(busWord_mask d).2.1, fun _ => rfl⟩
theorem wPpuStatus (d : Byte) : Statement (.wPpuStatus d) := ⟨(busWord_mask d).2.2.1, fun _ => rfl⟩
theorem wOamAddr (d : Byte) : Statement (.wOamAddr d) := ⟨(busWord_mask d).2.2.2.1, fun _ => rfl⟩
theorem wOamData (d : Byte) : Statement (.wOamData d) := ⟨(busWord_mask d).2.2.2.2.1, fun _ => rfl⟩
theorem wPpuScroll (d : Byte) : Statement (.wPpuScroll d) := ⟨(busWord_mask d).2.2.2.2.2.1, fun _ => rfl⟩
theorem wPpuAddr (d : Byte) : Statement (.wPpuAddr d) := ⟨(busWord_mask d).2.2.2.2.2.2.1, fun _ => rfl⟩
theorem wPpuData (d : Byte) : Statement (.wPpuData d) := ⟨(busWord_mask d).2.2.2.2.2.2.2, fun _ => rfl⟩
theorem rPpuCtrl : Statement .rPpuCtrl := ⟨rfl, fun _ => rfl⟩
theorem rPpuMask : Statement .rPpuMask := ⟨rfl, fun _ => rfl⟩
theorem rPpuStatus : Statement .rPpuStatus := ⟨rfl, fun _ => rfl⟩
theorem rOamAddr : Statement .rOamAddr := ⟨rfl, fun _ => rfl⟩
theorem rOamData : Statement .rOamData := ⟨rfl, fun _ => rfl⟩
theorem rPpuScroll : Statement .rPpuScroll := ⟨rfl, fun _ => rfl⟩
theorem rPpuAddr : Statement .rPpuAddr := ⟨rfl, fun _ => rfl⟩
theorem rPpuData : Statement .rPpuData := ⟨rfl, fun _ => rfl⟩
theorem tick : Statement .tick := ⟨rfl, fun _ => rfl⟩
theorem reset : Statement .reset := ⟨rfl, fun _ => rfl⟩
theorem nmiAck : Statement .nmiAck := ⟨rfl, fun _ => rfl⟩
theorem dma (page : Byte) (bytes : List Byte) : Statement (.dma page bytes) :=
  ⟨dmaWord_mask page, fun h => of_decide_eq_true h⟩
theorem frameAck : Statement .frameAck := ⟨rfl, fun _ => rfl⟩

end Sys2Proof.Laws.Encodes
end

