-- ==== Sys2Proof/Laws/Tick.lean ====
section
/-! SUPPORT. What each part of a `TICK` can change, and when it answers. -/
namespace Sys2Proof.Machine

/-! ## The background part -/

/-- `t` differs from `s` in `v`, the background pipeline and what a bus read may change: all `BgDot` can do. -/
def BgFrame (s t : State) : Prop :=
  ∃ v bg log m, t =
    { s with regs := { s.regs with v := v }, bg := bg, cartLog := log, mir := { s.mir with cached := m } }

theorem BgFrame.refl (s : State) : BgFrame s s := ⟨s.regs.v, s.bg, s.cartLog, s.mir.cached, rfl⟩

theorem BgFrame.trans {s t u : State} (h : BgFrame s t) (k : BgFrame t u) : BgFrame s u := by
  obtain ⟨v, b, l, m, rfl⟩ := h
  obtain ⟨v', b', l', m', rfl⟩ := k
  exact ⟨v', b', l', m', rfl⟩

theorem BgFrame.of_calls {s t : State} (h : SameButCalls s t) : BgFrame s t := by
  obtain ⟨l, m, rfl⟩ := h
  exact ⟨s.regs.v, s.bg, l, m, rfl⟩

theorem BgFrame.setBg (s : State) (b : BgPipe) : BgFrame s (s.setBg b) := ⟨s.regs.v, b, s.cartLog, s.mir.cached, rfl⟩

theorem scrollIfRendering_frame (f : VramAddr → VramAddr) (s : State) : BgFrame s (scrollIfRendering f s) := by
  unfold scrollIfRendering
  split
  · exact ⟨f s.regs.v, s.bg, s.cartLog, s.mir.cached, rfl⟩
  · exact BgFrame.refl s

/-- A rendering fetch whose byte goes into the pipeline. -/
theorem fetchInto_bg_frame {a : BusAddr} {k : Byte → State → State} {s t : State}
    (hk : ∀ b q, BgFrame q (k b q)) (h : fetchInto a k s = .ok t) : BgFrame s t := by
  obtain ⟨b, q, hq, rfl⟩ := fetchInto_cases h
  exact (BgFrame.of_calls (ppuRead_same hq)).trans (hk b q)

theorem bgPhase_frame {c : Nat} {s t : State} (h : bgPhase c s = .ok t) : BgFrame s t := by
  unfold bgPhase at h
  split at h
  · exact (BgFrame.setBg s _).trans (fetchInto_bg_frame (fun b q => BgFrame.setBg q _) h)
  · exact fetchInto_bg_frame (fun b q => BgFrame.setBg q _) h
  · exact fetchInto_bg_frame (fun b q => BgFrame.setBg q _) h
  · exact fetchInto_bg_frame (fun b q => BgFrame.setBg q _) h
  · cases h; exact scrollIfRendering_frame _ s
  · cases h; exact BgFrame.refl s

theorem bgWindow_frame {c : Nat} {s t : State} (h : bgWindow c s = .ok t) : BgFrame s t := by
  unfold bgWindow at h
  split at h
  · refine BgFrame.trans ?_ (bgPhase_frame h)
    unfold shiftIfRendering
    split
    · exact BgFrame.setBg s _
    · exact BgFrame.refl s
  · cases h; exact BgFrame.refl s

theorem bgScroll_frame (sl : Int) (c : Nat) (s : State) : BgFrame s (bgScroll sl c s) := by
  unfold bgScroll
  have h1 : BgFrame s (if c = 256 then incrementScrollY s else s) := by
    split
    · exact scrollIfRendering_frame _ s
    · exact BgFrame.refl s
  have h2 : ∀ q, BgFrame q (if c = 257 then transferAddressX (q.setBg (loadBgShifters q.bg)) else q) := by
    intro q
    split
    · exact (BgFrame.setBg q _).trans (scrollIfRendering_frame _ _)
    · exact BgFrame.refl q
  have h3 : ∀ q, BgFrame q (if sl = -1 ∧ 280 ≤ c ∧ c ≤ 304 then transferAddressY q else q) := by
    intro q
    split
    · exact scrollIfRendering_frame _ q
    · exact BgFrame.refl q
  exact (h1.trans (h2 _)).trans (h3 _)

theorem bgDummy_frame {c : Nat} {s t : State} (h : bgDummy c s = .ok t) : SameButCalls s t := by
  unfold bgDummy at h
  split at h
  · obtain ⟨b, q, hq, rfl⟩ := fetchInto_cases h
    exact ppuRead_same hq
  · cases h; exact SameButCalls.refl s

/-- `BgDot` is the window's work, then the scroll work, then the dummy fetch. -/
theorem bgDot_cases {sl : Int} {c : Nat} {s t : State} (h : bgDot sl c s = .ok t) :
    ∃ q, bgWindow c s = .ok q ∧ bgDummy c (bgScroll sl c q) = .ok t := by
  unfold bgDot at h
  split at h
  · rename_i q hq
    exact ⟨q, hq, h⟩
  · cases h

theorem bgDot_frame {sl : Int} {c : Nat} {s t : State} (h : bgDot sl c s = .ok t) : BgFrame s t := by
  obtain ⟨q, hq, hd⟩ := bgDot_cases h
  exact ((bgWindow_frame hq).trans (bgScroll_frame sl c q)).trans (BgFrame.of_calls (bgDummy_frame hd))

/-! ## The sprite part -/

/-- `t` differs from `s` in the sprite line, the evaluation state, the overflow bit and what a bus read may change: all
`SpriteDot` can do. -/
def SpriteFrame (s t : State) : Prop :=
  ∃ st spr ev log m, (st = s.regs.status ∨ st = setBit s.regs.status overflowBit true) ∧ t =
    { s with regs := { s.regs with status := st }, spr := spr, eval := ev, cartLog := log,
             mir := { s.mir with cached := m } }

theorem setBit_true_twice (x : Byte) (i : Nat) : setBit (setBit x i true) i true = setBit x i true := by
  simp [setBit, BitVec.or_assoc]

theorem SpriteFrame.refl (s : State) : SpriteFrame s s :=
  ⟨s.regs.status, s.spr, s.eval, s.cartLog, s.mir.cached, .inl rfl, rfl⟩

theorem SpriteFrame.trans {s t u : State} (h : SpriteFrame s t) (k : SpriteFrame t u) : SpriteFrame s u := by
  obtain ⟨st, p, e, l, m, hst, rfl⟩ := h
  obtain ⟨st', p', e', l', m', hst', rfl⟩ := k
  refine ⟨st', p', e', l', m', ?_, rfl⟩
  rcases hst with rfl | rfl <;> rcases hst' with rfl | rfl
  · exact .inl rfl
  · exact .inr rfl
  · exact .inr rfl
  · exact .inr (setBit_true_twice _ _)

theorem SpriteFrame.of_calls {s t : State} (h : SameButCalls s t) : SpriteFrame s t := by
  obtain ⟨l, m, rfl⟩ := h
  exact ⟨s.regs.status, s.spr, s.eval, l, m, .inl rfl, rfl⟩

theorem SpriteFrame.setSpr (s : State) (p : SpriteLine) : SpriteFrame s (s.setSpr p) :=
  ⟨s.regs.status, p, s.eval, s.cartLog, s.mir.cached, .inl rfl, rfl⟩

theorem SpriteFrame.setEval (s : State) (e : SpriteEval) : SpriteFrame s (s.setEval e) :=
  ⟨s.regs.status, s.spr, e, s.cartLog, s.mir.cached, .inl rfl, rfl⟩

theorem SpriteFrame.setOverflow (s : State) : SpriteFrame s (s.setStatusBit overflowBit true) :=
  ⟨_, s.spr, s.eval, s.cartLog, s.mir.cached, .inr rfl, rfl⟩

theorem evalDot_frame (sl : Int) (c : Nat) (s : State) : SpriteFrame s (evalDot sl c s) := by
  have work : ∀ q, SpriteFrame q (evalWork sl c q) := by
    intro q
    unfold evalWork
    split
    · exact SpriteFrame.refl q
    · split
      · exact SpriteFrame.setEval q _
      · unfold evalDecideDot
        dsimp only
        split
        · exact (SpriteFrame.setEval q _).trans (SpriteFrame.setOverflow _)
        · exact SpriteFrame.setEval q _
  unfold evalDot
  split
  · exact (SpriteFrame.setEval s _).trans (work _)
  · exact work s

theorem spriteWork_frame (sl : Int) (c : Nat) (s : State) : SpriteFrame s (spriteWork sl c s) := by
  unfold spriteWork
  have h1 : SpriteFrame s (if 2 ≤ c ∧ c ≤ 256 then s.setSpr (updateSpriteShifters s.spr) else s) := by
    split
    · exact SpriteFrame.setSpr s _
    · exact SpriteFrame.refl s
  have h2 : ∀ q : State, SpriteFrame q
      (if 65 ≤ c ∧ c ≤ 256 ∧ q.regs.renderingEnabled = true then evalDot sl c q else q) := by
    intro q
    split
    · exact evalDot_frame sl c q
    · exact SpriteFrame.refl q
  have h3 : ∀ q, SpriteFrame q (if c = 257 then copySpriteLine q else q) := by
    intro q
    split
    · exact SpriteFrame.setSpr q _
    · exact SpriteFrame.refl q
  exact (h1.trans (h2 _)).trans (h3 _)

theorem fetchSlotPatterns_frame {sl : Int} {i : Fin 8} {s t : State} (h : fetchSlotPatterns sl i s = .ok t) :
    SpriteFrame s t := by
  simp only [fetchSlotPatterns] at h
  split at h
  · cases h
  · rename_i lo s1 h1
    split at h
    · cases h
    · rename_i hi s2 h2
      cases h
      exact ((SpriteFrame.of_calls (ppuRead_same h1)).trans (SpriteFrame.of_calls (ppuRead_same h2))).trans
        (SpriteFrame.setSpr s2 _)

theorem fetchSlots_frame {sl : Int} {l : List (Fin 8)} {s t : State} (h : fetchSlots sl l s = .ok t) :
    SpriteFrame s t := by
  induction l generalizing s with
  | nil => cases h; exact SpriteFrame.refl _
  | cons i l ih =>
    simp only [fetchSlots] at h
    split at h
    · split at h
      · rename_i q hq
        exact (fetchSlotPatterns_frame hq).trans (ih h)
      · cases h
    · exact ih h

theorem spriteDot_frame {sl : Int} {c : Nat} {s t : State} (h : spriteDot sl c s = .ok t) : SpriteFrame s t := by
  simp only [spriteDot] at h
  split at h
  · exact (spriteWork_frame sl c s).trans (fetchSlots_frame h)
  · cases h; exact spriteWork_frame sl c s

/-! ## When the fetches answer -/

theorem bgWindow_total (c : Nat) {s : State} (h : s.cart.NeverFails) : ∃ t, bgWindow c s = .ok t := by
  have phase : ∀ q : State, q.cart.NeverFails → ∃ t, bgPhase c q = .ok t := by
    intro q hq
    unfold bgPhase
    split
    · exact fetchInto_total (.inl hq)
    · exact fetchInto_total (.inl hq)
    · exact fetchInto_total (.inl hq)
    · exact fetchInto_total (.inl hq)
    · exact ⟨_, rfl⟩
    · exact ⟨_, rfl⟩
  unfold bgWindow
  split
  · refine phase _ ?_
    unfold shiftIfRendering
    split <;> exact h
  · exact ⟨_, rfl⟩

theorem bgDot_total (sl : Int) (c : Nat) {s : State} (h : s.cart.NeverFails) : ∃ t, bgDot sl c s = .ok t := by
  obtain ⟨q, hq⟩ := bgWindow_total c h
  have hc : (bgScroll sl c q).cart.NeverFails := by
    obtain ⟨v, b, l, m, he⟩ := (bgWindow_frame hq).trans (bgScroll_frame sl c q)
    rw [he]; exact h
  unfold bgDot
  rw [hq]
  unfold bgDummy
  dsimp only
  split
  · exact fetchInto_total (.inl hc)
  · exact ⟨_, rfl⟩

theorem fetchSlots_total (sl : Int) (l : List (Fin 8)) {s : State} (h : s.cart.NeverFails) :
    ∃ t, fetchSlots sl l s = .ok t := by
  induction l generalizing s with
  | nil => exact ⟨s, rfl⟩
  | cons i l ih =>
    simp only [fetchSlots]
    split
    · have : ∃ t, fetchSlotPatterns sl i s = .ok t := by
        simp only [fetchSlotPatterns]
        obtain ⟨lo, s1, h1⟩ := ppuRead_total (a := busOfInt (spriteAddr s.regs.ctrl s.spr.slots[i].tile
          (spriteRow (spriteHeight s.regs.ctrl) sl s.spr.slots[i].y s.spr.slots[i].attr))) (.inl h)
        rw [h1]
        have hc : s1.cart.NeverFails := by
          obtain ⟨l, m, he⟩ := ppuRead_same h1
          rw [he]; exact h
        obtain ⟨hi, s2, h2⟩ := ppuRead_total (a := busOfInt (spriteAddr s.regs.ctrl s.spr.slots[i].tile
          (spriteRow (spriteHeight s.regs.ctrl) sl s.spr.slots[i].y s.spr.slots[i].attr) + 8)) (.inl hc)
        dsimp only
        rw [h2]
        exact ⟨_, rfl⟩
      obtain ⟨t, ht⟩ := this
      rw [ht]
      refine ih ?_
      obtain ⟨st, p, e, l, m, _, he⟩ := fetchSlotPatterns_frame ht
      rw [he]; exact h
    · exact ih h

theorem spriteDot_total (sl : Int) (c : Nat) {s : State} (h : s.cart.NeverFails) : ∃ t, spriteDot sl c s = .ok t := by
  simp only [spriteDot]
  split
  · refine fetchSlots_total sl _ ?_
    obtain ⟨st, p, e, l, m, _, he⟩ := spriteWork_frame sl c s
    rw [he]; exact h
  · exact ⟨_, rfl⟩

theorem tickFetch_total (sl : Int) (c : Nat) {s : State} (h : s.cart.NeverFails) : ∃ t, tickFetch sl c s = .ok t := by
  unfold tickFetch
  split
  · obtain ⟨q, hq⟩ := bgDot_total sl c h
    rw [hq]
    dsimp only
    split
    · refine spriteDot_total sl c ?_
      obtain ⟨v, b, l, m, he⟩ := bgDot_frame hq
      rw [he]; exact h
    · exact ⟨_, rfl⟩
  · exact ⟨_, rfl⟩

/-! ## The tick -/

/-- What step (c) can change: the frames of its two parts together. -/
def FetchFrame (s t : State) : Prop :=
  ∃ q, BgFrame s q ∧ SpriteFrame q t

theorem tickFetch_frame {sl : Int} {c : Nat} {s t : State} (h : tickFetch sl c s = .ok t) : FetchFrame s t := by
  unfold tickFetch at h
  split at h
  · split at h
    · cases h
    · rename_i q hq
      split at h
      · exact ⟨q, bgDot_frame hq, spriteDot_frame h⟩
      · cases h
        exact ⟨_, bgDot_frame hq, SpriteFrame.refl _⟩
  · cases h
    exact ⟨_, BgFrame.refl _, SpriteFrame.refl _⟩

/-- A tick that answers is its head, its fetches and its tail. -/
theorem tickDot_cases {s t : State} (h : tickDot s = .ok t) :
    ∃ q, tickFetch s.seq.scanline s.seq.cycle (tickHead s) = .ok q ∧ t = tickTail s.seq.scanline s.seq.cycle q := by
  unfold tickDot at h
  split at h
  · rename_i q hq
    cases h
    exact ⟨q, hq, rfl⟩
  · cases h

theorem execTick_next {s t : State} : exec .tick s = .next t ↔ tickDot s = .ok t := by
  show outcomeOf (tickDot s) = .next t ↔ _
  cases h : tickDot s with
  | ok q => simp [outcomeOf]
  | error f => simp [outcomeOf]

/-- With a cartridge that never fails a tick answers. -/
theorem execTick_total {s : State} (h : s.cart.NeverFails) : ∃ t, exec .tick s = .next t := by
  have hc : (tickHead s).cart = s.cart := by
    unfold tickHead preRenderClear
    dsimp only
    repeat' split
    all_goals rfl
  obtain ⟨q, hq⟩ := tickFetch_total s.seq.scanline s.seq.cycle (s := tickHead s) (by rw [hc]; exact h)
  exact ⟨_, execTick_next.mpr (by unfold tickDot; rw [hq])⟩

end Sys2Proof.Machine
end

