-- ==== Sys2Proof/Laws/TickFields.lean ====
section
/-! SUPPORT. The fields that the parts of a `TICK` before and after its fetches keep, one lemma a field. -/
namespace Sys2Proof.Machine

@[simp] theorem setVblank_bg (on : Bool) (s : State) : (setVblank on s).bg = s.bg := rfl
@[simp] theorem setVblank_spr (on : Bool) (s : State) : (setVblank on s).spr = s.spr := rfl
@[simp] theorem setVblank_eval (on : Bool) (s : State) : (setVblank on s).eval = s.eval := rfl
@[simp] theorem setVblank_seq (on : Bool) (s : State) : (setVblank on s).seq = s.seq := rfl
@[simp] theorem setVblank_mir (on : Bool) (s : State) : (setVblank on s).mir = s.mir := rfl
@[simp] theorem setVblank_nametable (on : Bool) (s : State) : (setVblank on s).nametable = s.nametable := rfl
@[simp] theorem setVblank_palette (on : Bool) (s : State) : (setVblank on s).palette = s.palette := rfl
@[simp] theorem setVblank_oam (on : Bool) (s : State) : (setVblank on s).oam = s.oam := rfl
@[simp] theorem setVblank_frame (on : Bool) (s : State) : (setVblank on s).frame = s.frame := rfl
@[simp] theorem setVblank_cart (on : Bool) (s : State) : (setVblank on s).cart = s.cart := rfl
@[simp] theorem setVblank_cartLog (on : Bool) (s : State) : (setVblank on s).cartLog = s.cartLog := rfl
@[simp] theorem setVblank_params (on : Bool) (s : State) : (setVblank on s).params = s.params := rfl
@[simp] theorem setVblank_stimuli (on : Bool) (s : State) : (setVblank on s).stimuli = s.stimuli := rfl
@[simp] theorem setVblank_answer (on : Bool) (s : State) : (setVblank on s).answer = s.answer := rfl
@[simp] theorem setVblank_ctrl (on : Bool) (s : State) : (setVblank on s).regs.ctrl = s.regs.ctrl := rfl
@[simp] theorem setVblank_mask (on : Bool) (s : State) : (setVblank on s).regs.mask = s.regs.mask := rfl
@[simp] theorem setVblank_oamAddr (on : Bool) (s : State) : (setVblank on s).regs.oamAddr = s.regs.oamAddr := rfl
@[simp] theorem setVblank_v (on : Bool) (s : State) : (setVblank on s).regs.v = s.regs.v := rfl
@[simp] theorem setVblank_t (on : Bool) (s : State) : (setVblank on s).regs.t = s.regs.t := rfl
@[simp] theorem setVblank_fineX (on : Bool) (s : State) : (setVblank on s).regs.fineX = s.regs.fineX := rfl
@[simp] theorem setVblank_addressLatch (on : Bool) (s : State) : (setVblank on s).regs.addressLatch = s.regs.addressLatch := rfl
@[simp] theorem setVblank_ppuDataBuffer (on : Bool) (s : State) : (setVblank on s).regs.ppuDataBuffer = s.regs.ppuDataBuffer := rfl
@[simp] theorem setVblank_renderingEnabled (on : Bool) (s : State) : (setVblank on s).regs.renderingEnabled = s.regs.renderingEnabled := rfl

@[simp] theorem preRenderClear_bg (s : State) : (preRenderClear s).bg = s.bg := by
  unfold preRenderClear; dsimp only; split <;> rfl
@[simp] theorem preRenderClear_eval (s : State) : (preRenderClear s).eval = s.eval := by
  unfold preRenderClear; dsimp only; split <;> rfl
@[simp] theorem preRenderClear_seq (s : State) : (preRenderClear s).seq = s.seq := by
  unfold preRenderClear; dsimp only; split <;> rfl
@[simp] theorem preRenderClear_mir (s : State) : (preRenderClear s).mir = s.mir := by
  unfold preRenderClear; dsimp only; split <;> rfl
@[simp] theorem preRenderClear_nametable (s : State) : (preRenderClear s).nametable = s.nametable := by
  unfold preRenderClear; dsimp only; split <;> rfl
@[simp] theorem preRenderClear_palette (s : State) : (preRenderClear s).palette = s.palette := by
  unfold preRenderClear; dsimp only; split <;> rfl
@[simp] theorem preRenderClear_oam (s : State) : (preRenderClear s).oam = s.oam := by
  unfold preRenderClear; dsimp only; split <;> rfl
@[simp] theorem preRenderClear_frame (s : State) : (preRenderClear s).frame = s.frame := by
  unfold preRenderClear; dsimp only; split <;> rfl
@[simp] theorem preRenderClear_cart (s : State) : (preRenderClear s).cart = s.cart := by
  unfold preRenderClear; dsimp only; split <;> rfl
@[simp] theorem preRenderClear_cartLog (s : State) : (preRenderClear s).cartLog = s.cartLog := by
  unfold preRenderClear; dsimp only; split <;> rfl
@[simp] theorem preRenderClear_params (s : State) : (preRenderClear s).params = s.params := by
  unfold preRenderClear; dsimp only; split <;> rfl
@[simp] theorem preRenderClear_stimuli (s : State) : (preRenderClear s).stimuli = s.stimuli := by
  unfold preRenderClear; dsimp only; split <;> rfl
@[simp] theorem preRenderClear_answer (s : State) : (preRenderClear s).answer = s.answer := by
  unfold preRenderClear; dsimp only; split <;> rfl
@[simp] theorem preRenderClear_ctrl (s : State) : (preRenderClear s).regs.ctrl = s.regs.ctrl := by
  unfold preRenderClear; dsimp only; split <;> rfl
@[simp] theorem preRenderClear_mask (s : State) : (preRenderClear s).regs.mask = s.regs.mask := by
  unfold preRenderClear; dsimp only; split <;> rfl
@[simp] theorem preRenderClear_oamAddr (s : State) : (preRenderClear s).regs.oamAddr = s.regs.oamAddr := by
  unfold preRenderClear; dsimp only; split <;> rfl
@[simp] theorem preRenderClear_v (s : State) : (preRenderClear s).regs.v = s.regs.v := by
  unfold preRenderClear; dsimp only; split <;> rfl
@[simp] theorem preRenderClear_t (s : State) : (preRenderClear s).regs.t = s.regs.t := by
  unfold preRenderClear; dsimp only; split <;> rfl
@[simp] theorem preRenderClear_fineX (s : State) : (preRenderClear s).regs.fineX = s.regs.fineX := by
  unfold preRenderClear; dsimp only; split <;> rfl
@[simp] theorem preRenderClear_addressLatch (s : State) : (preRenderClear s).regs.addressLatch = s.regs.addressLatch := by
  unfold preRenderClear; dsimp only; split <;> rfl
@[simp] theorem preRenderClear_ppuDataBuffer (s : State) : (preRenderClear s).regs.ppuDataBuffer = s.regs.ppuDataBuffer := by
  unfold preRenderClear; dsimp only; split <;> rfl
@[simp] theorem preRenderClear_renderingEnabled (s : State) : (preRenderClear s).regs.renderingEnabled = s.regs.renderingEnabled := by
  unfold preRenderClear; dsimp only; split <;> rfl
@[simp] theorem preRenderClear_zeroBeingRendered (s : State) : (preRenderClear s).spr.zeroBeingRendered = s.spr.zeroBeingRendered := by
  unfold preRenderClear; dsimp only; split <;> rfl

@[simp] theorem tickHead_bg (s : State) : (tickHead s).bg = s.bg := by
  unfold tickHead; dsimp only; split <;> simp
@[simp] theorem tickHead_eval (s : State) : (tickHead s).eval = s.eval := by
  unfold tickHead; dsimp only; split <;> simp
@[simp] theorem tickHead_seq (s : State) : (tickHead s).seq = s.seq := by
  unfold tickHead; dsimp only; split <;> simp
@[simp] theorem tickHead_mir (s : State) : (tickHead s).mir = s.mir := by
  unfold tickHead; dsimp only; split <;> simp
@[simp] theorem tickHead_nametable (s : State) : (tickHead s).nametable = s.nametable := by
  unfold tickHead; dsimp only; split <;> simp
@[simp] theorem tickHead_palette (s : State) : (tickHead s).palette = s.palette := by
  unfold tickHead; dsimp only; split <;> simp
@[simp] theorem tickHead_oam (s : State) : (tickHead s).oam = s.oam := by
  unfold tickHead; dsimp only; split <;> simp
@[simp] theorem tickHead_frame (s : State) : (tickHead s).frame = s.frame := by
  unfold tickHead; dsimp only; split <;> simp
@[simp] theorem tickHead_cart (s : State) : (tickHead s).cart = s.cart := by
  unfold tickHead; dsimp only; split <;> simp
@[simp] theorem tickHead_cartLog (s : State) : (tickHead s).cartLog = s.cartLog := by
  unfold tickHead; dsimp only; split <;> simp
@[simp] theorem tickHead_params (s : State) : (tickHead s).params = s.params := by
  unfold tickHead; dsimp only; split <;> simp
@[simp] theorem tickHead_stimuli (s : State) : (tickHead s).stimuli = s.stimuli := by
  unfold tickHead; dsimp only; split <;> simp
@[simp] theorem tickHead_answer (s : State) : (tickHead s).answer = s.answer := by
  unfold tickHead; dsimp only; split <;> simp
@[simp] theorem tickHead_ctrl (s : State) : (tickHead s).regs.ctrl = s.regs.ctrl := by
  unfold tickHead; dsimp only; split <;> simp
@[simp] theorem tickHead_mask (s : State) : (tickHead s).regs.mask = s.regs.mask := by
  unfold tickHead; dsimp only; split <;> simp
@[simp] theorem tickHead_oamAddr (s : State) : (tickHead s).regs.oamAddr = s.regs.oamAddr := by
  unfold tickHead; dsimp only; split <;> simp
@[simp] theorem tickHead_v (s : State) : (tickHead s).regs.v = s.regs.v := by
  unfold tickHead; dsimp only; split <;> simp
@[simp] theorem tickHead_t (s : State) : (tickHead s).regs.t = s.regs.t := by
  unfold tickHead; dsimp only; split <;> simp
@[simp] theorem tickHead_fineX (s : State) : (tickHead s).regs.fineX = s.regs.fineX := by
  unfold tickHead; dsimp only; split <;> simp
@[simp] theorem tickHead_addressLatch (s : State) : (tickHead s).regs.addressLatch = s.regs.addressLatch := by
  unfold tickHead; dsimp only; split <;> simp
@[simp] theorem tickHead_ppuDataBuffer (s : State) : (tickHead s).regs.ppuDataBuffer = s.regs.ppuDataBuffer := by
  unfold tickHead; dsimp only; split <;> simp
@[simp] theorem tickHead_renderingEnabled (s : State) : (tickHead s).regs.renderingEnabled = s.regs.renderingEnabled := by
  unfold tickHead; dsimp only; split <;> simp
@[simp] theorem tickHead_zeroBeingRendered (s : State) : (tickHead s).spr.zeroBeingRendered = s.spr.zeroBeingRendered := by
  unfold tickHead; dsimp only; split <;> simp

@[simp] theorem vblankStart_bg (s : State) : (vblankStart s).bg = s.bg := by
  unfold vblankStart; dsimp only; repeat' split
  all_goals rfl
@[simp] theorem vblankStart_spr (s : State) : (vblankStart s).spr = s.spr := by
  unfold vblankStart; dsimp only; repeat' split
  all_goals rfl
@[simp] theorem vblankStart_eval (s : State) : (vblankStart s).eval = s.eval := by
  unfold vblankStart; dsimp only; repeat' split
  all_goals rfl
@[simp] theorem vblankStart_seq (s : State) : (vblankStart s).seq = s.seq := by
  unfold vblankStart; dsimp only; repeat' split
  all_goals rfl
@[simp] theorem vblankStart_mir (s : State) : (vblankStart s).mir = s.mir := by
  unfold vblankStart; dsimp only; repeat' split
  all_goals rfl
@[simp] theorem vblankStart_nametable (s : State) : (vblankStart s).nametable = s.nametable := by
  unfold vblankStart; dsimp only; repeat' split
  all_goals rfl
@[simp] theorem vblankStart_palette (s : State) : (vblankStart s).palette = s.palette := by
  unfold vblankStart; dsimp only; repeat' split
  all_goals rfl
@[simp] theorem vblankStart_oam (s : State) : (vblankStart s).oam = s.oam := by
  unfold vblankStart; dsimp only; repeat' split
  all_goals rfl
@[simp] theorem vblankStart_frame (s : State) : (vblankStart s).frame = s.frame := by
  unfold vblankStart; dsimp only; repeat' split
  all_goals rfl
@[simp] theorem vblankStart_cart (s : State) : (vblankStart s).cart = s.cart := by
  unfold vblankStart; dsimp only; repeat' split
  all_goals rfl
@[simp] theorem vblankStart_cartLog (s : State) : (vblankStart s).cartLog = s.cartLog := by
  unfold vblankStart; dsimp only; repeat' split
  all_goals rfl
@[simp] theorem vblankStart_params (s : State) : (vblankStart s).params = s.params := by
  unfold vblankStart; dsimp only; repeat' split
  all_goals rfl
@[simp] theorem vblankStart_stimuli (s : State) : (vblankStart s).stimuli = s.stimuli := by
  unfold vblankStart; dsimp only; repeat' split
  all_goals rfl
@[simp] theorem vblankStart_answer (s : State) : (vblankStart s).answer = s.answer := by
  unfold vblankStart; dsimp only; repeat' split
  all_goals rfl
@[simp] theorem vblankStart_ctrl (s : State) : (vblankStart s).regs.ctrl = s.regs.ctrl := by
  unfold vblankStart; dsimp only; repeat' split
  all_goals rfl
@[simp] theorem vblankStart_mask (s : State) : (vblankStart s).regs.mask = s.regs.mask := by
  unfold vblankStart; dsimp only; repeat' split
  all_goals rfl
@[simp] theorem vblankStart_oamAddr (s : State) : (vblankStart s).regs.oamAddr = s.regs.oamAddr := by
  unfold vblankStart; dsimp only; repeat' split
  all_goals rfl
@[simp] theorem vblankStart_v (s : State) : (vblankStart s).regs.v = s.regs.v := by
  unfold vblankStart; dsimp only; repeat' split
  all_goals rfl
@[simp] theorem vblankStart_t (s : State) : (vblankStart s).regs.t = s.regs.t := by
  unfold vblankStart; dsimp only; repeat' split
  all_goals rfl
@[simp] theorem vblankStart_fineX (s : State) : (vblankStart s).regs.fineX = s.regs.fineX := by
  unfold vblankStart; dsimp only; repeat' split
  all_goals rfl
@[simp] theorem vblankStart_addressLatch (s : State) : (vblankStart s).regs.addressLatch = s.regs.addressLatch := by
  unfold vblankStart; dsimp only; repeat' split
  all_goals rfl
@[simp] theorem vblankStart_ppuDataBuffer (s : State) : (vblankStart s).regs.ppuDataBuffer = s.regs.ppuDataBuffer := by
  unfold vblankStart; dsimp only; repeat' split
  all_goals rfl
@[simp] theorem vblankStart_renderingEnabled (s : State) : (vblankStart s).regs.renderingEnabled = s.regs.renderingEnabled := by
  unfold vblankStart; dsimp only; repeat' split
  all_goals rfl

@[simp] theorem tickVblank_bg (sl : Int) (c : Nat) (s : State) : (tickVblank sl c s).bg = s.bg := by
  unfold tickVblank; split <;> simp
@[simp] theorem tickVblank_spr (sl : Int) (c : Nat) (s : State) : (tickVblank sl c s).spr = s.spr := by
  unfold tickVblank; split <;> simp
@[simp] theorem tickVblank_eval (sl : Int) (c : Nat) (s : State) : (tickVblank sl c s).eval = s.eval := by
  unfold tickVblank; split <;> simp
@[simp] theorem tickVblank_seq (sl : Int) (c : Nat) (s : State) : (tickVblank sl c s).seq = s.seq := by
  unfold tickVblank; split <;> simp
@[simp] theorem tickVblank_mir (sl : Int) (c : Nat) (s : State) : (tickVblank sl c s).mir = s.mir := by
  unfold tickVblank; split <;> simp
@[simp] theorem tickVblank_nametable (sl : Int) (c : Nat) (s : State) : (tickVblank sl c s).nametable = s.nametable := by
  unfold tickVblank; split <;> simp
@[simp] theorem tickVblank_palette (sl : Int) (c : Nat) (s : State) : (tickVblank sl c s).palette = s.palette := by
  unfold tickVblank; split <;> simp
@[simp] theorem tickVblank_oam (sl : Int) (c : Nat) (s : State) : (tickVblank sl c s).oam = s.oam := by
  unfold tickVblank; split <;> simp
@[simp] theorem tickVblank_frame (sl : Int) (c : Nat) (s : State) : (tickVblank sl c s).frame = s.frame := by
  unfold tickVblank; split <;> simp
@[simp] theorem tickVblank_cart (sl : Int) (c : Nat) (s : State) : (tickVblank sl c s).cart = s.cart := by
  unfold tickVblank; split <;> simp
@[simp] theorem tickVblank_cartLog (sl : Int) (c : Nat) (s : State) : (tickVblank sl c s).cartLog = s.cartLog := by
  unfold tickVblank; split <;> simp
@[simp] theorem tickVblank_params (sl : Int) (c : Nat) (s : State) : (tickVblank sl c s).params = s.params := by
  unfold tickVblank; split <;> simp
@[simp] theorem tickVblank_stimuli (sl : Int) (c : Nat) (s : State) : (tickVblank sl c s).stimuli = s.stimuli := by
  unfold tickVblank; split <;> simp
@[simp] theorem tickVblank_answer (sl : Int) (c : Nat) (s : State) : (tickVblank sl c s).answer = s.answer := by
  unfold tickVblank; split <;> simp
@[simp] theorem tickVblank_ctrl (sl : Int) (c : Nat) (s : State) : (tickVblank sl c s).regs.ctrl = s.regs.ctrl := by
  unfold tickVblank; split <;> simp
@[simp] theorem tickVblank_mask (sl : Int) (c : Nat) (s : State) : (tickVblank sl c s).regs.mask = s.regs.mask := by
  unfold tickVblank; split <;> simp
@[simp] theorem tickVblank_oamAddr (sl : Int) (c : Nat) (s : State) : (tickVblank sl c s).regs.oamAddr = s.regs.oamAddr := by
  unfold tickVblank; split <;> simp
@[simp] theorem tickVblank_v (sl : Int) (c : Nat) (s : State) : (tickVblank sl c s).regs.v = s.regs.v := by
  unfold tickVblank; split <;> simp
@[simp] theorem tickVblank_t (sl : Int) (c : Nat) (s : State) : (tickVblank sl c s).regs.t = s.regs.t := by
  unfold tickVblank; split <;> simp
@[simp] theorem tickVblank_fineX (sl : Int) (c : Nat) (s : State) : (tickVblank sl c s).regs.fineX = s.regs.fineX := by
  unfold tickVblank; split <;> simp
@[simp] theorem tickVblank_addressLatch (sl : Int) (c : Nat) (s : State) : (tickVblank sl c s).regs.addressLatch = s.regs.addressLatch := by
  unfold tickVblank; split <;> simp
@[simp] theorem tickVblank_ppuDataBuffer (sl : Int) (c : Nat) (s : State) : (tickVblank sl c s).regs.ppuDataBuffer = s.regs.ppuDataBuffer := by
  unfold tickVblank; split <;> simp
@[simp] theorem tickVblank_renderingEnabled (sl : Int) (c : Nat) (s : State) : (tickVblank sl c s).regs.renderingEnabled = s.regs.renderingEnabled := by
  unfold tickVblank; split <;> simp

@[simp] theorem compose_bg (sl : Int) (c : Nat) (s : State) : (compose sl c s).bg = s.bg := by
  unfold compose; dsimp only; split <;> rfl
@[simp] theorem compose_eval (sl : Int) (c : Nat) (s : State) : (compose sl c s).eval = s.eval := by
  unfold compose; dsimp only; split <;> rfl
@[simp] theorem compose_seq (sl : Int) (c : Nat) (s : State) : (compose sl c s).seq = s.seq := by
  unfold compose; dsimp only; split <;> rfl
@[simp] theorem compose_nmi (sl : Int) (c : Nat) (s : State) : (compose sl c s).nmi = s.nmi := by
  unfold compose; dsimp only; split <;> rfl
@[simp] theorem compose_mir (sl : Int) (c : Nat) (s : State) : (compose sl c s).mir = s.mir := by
  unfold compose; dsimp only; split <;> rfl
@[simp] theorem compose_nametable (sl : Int) (c : Nat) (s : State) : (compose sl c s).nametable = s.nametable := by
  unfold compose; dsimp only; split <;> rfl
@[simp] theorem compose_palette (sl : Int) (c : Nat) (s : State) : (compose sl c s).palette = s.palette := by
  unfold compose; dsimp only; split <;> rfl
@[simp] theorem compose_oam (sl : Int) (c : Nat) (s : State) : (compose sl c s).oam = s.oam := by
  unfold compose; dsimp only; split <;> rfl
@[simp] theorem compose_cart (sl : Int) (c : Nat) (s : State) : (compose sl c s).cart = s.cart := by
  unfold compose; dsimp only; split <;> rfl
@[simp] theorem compose_cartLog (sl : Int) (c : Nat) (s : State) : (compose sl c s).cartLog = s.cartLog := by
  unfold compose; dsimp only; split <;> rfl
@[simp] theorem compose_params (sl : Int) (c : Nat) (s : State) : (compose sl c s).params = s.params := by
  unfold compose; dsimp only; split <;> rfl
@[simp] theorem compose_stimuli (sl : Int) (c : Nat) (s : State) : (compose sl c s).stimuli = s.stimuli := by
  unfold compose; dsimp only; split <;> rfl
@[simp] theorem compose_answer (sl : Int) (c : Nat) (s : State) : (compose sl c s).answer = s.answer := by
  unfold compose; dsimp only; split <;> rfl
@[simp] theorem compose_ctrl (sl : Int) (c : Nat) (s : State) : (compose sl c s).regs.ctrl = s.regs.ctrl := by
  unfold compose; dsimp only; split <;> rfl
@[simp] theorem compose_mask (sl : Int) (c : Nat) (s : State) : (compose sl c s).regs.mask = s.regs.mask := by
  unfold compose; dsimp only; split <;> rfl
@[simp] theorem compose_oamAddr (sl : Int) (c : Nat) (s : State) : (compose sl c s).regs.oamAddr = s.regs.oamAddr := by
  unfold compose; dsimp only; split <;> rfl
@[simp] theorem compose_v (sl : Int) (c : Nat) (s : State) : (compose sl c s).regs.v = s.regs.v := by
  unfold compose; dsimp only; split <;> rfl
@[simp] theorem compose_t (sl : Int) (c : Nat) (s : State) : (compose sl c s).regs.t = s.regs.t := by
  unfold compose; dsimp only; split <;> rfl
@[simp] theorem compose_fineX (sl : Int) (c : Nat) (s : State) : (compose sl c s).regs.fineX = s.regs.fineX := by
  unfold compose; dsimp only; split <;> rfl
@[simp] theorem compose_addressLatch (sl : Int) (c : Nat) (s : State) : (compose sl c s).regs.addressLatch = s.regs.addressLatch := by
  unfold compose; dsimp only; split <;> rfl
@[simp] theorem compose_ppuDataBuffer (sl : Int) (c : Nat) (s : State) : (compose sl c s).regs.ppuDataBuffer = s.regs.ppuDataBuffer := by
  unfold compose; dsimp only; split <;> rfl
@[simp] theorem compose_renderingEnabled (sl : Int) (c : Nat) (s : State) : (compose sl c s).regs.renderingEnabled = s.regs.renderingEnabled := by
  unfold compose; dsimp only; split <;> rfl
@[simp] theorem compose_slots (sl : Int) (c : Nat) (s : State) : (compose sl c s).spr.slots = s.spr.slots := by
  unfold compose; dsimp only; split <;> rfl
@[simp] theorem compose_count (sl : Int) (c : Nat) (s : State) : (compose sl c s).spr.count = s.spr.count := by
  unfold compose; dsimp only; split <;> rfl
@[simp] theorem compose_shifterLo (sl : Int) (c : Nat) (s : State) : (compose sl c s).spr.shifterLo = s.spr.shifterLo := by
  unfold compose; dsimp only; split <;> rfl
@[simp] theorem compose_shifterHi (sl : Int) (c : Nat) (s : State) : (compose sl c s).spr.shifterHi = s.spr.shifterHi := by
  unfold compose; dsimp only; split <;> rfl
@[simp] theorem compose_zeroHitPossible (sl : Int) (c : Nat) (s : State) : (compose sl c s).spr.zeroHitPossible = s.spr.zeroHitPossible := by
  unfold compose; dsimp only; split <;> rfl

@[simp] theorem tickCompose_bg (sl : Int) (c : Nat) (s : State) : (tickCompose sl c s).bg = s.bg := by
  unfold tickCompose; split <;> simp
@[simp] theorem tickCompose_eval (sl : Int) (c : Nat) (s : State) : (tickCompose sl c s).eval = s.eval := by
  unfold tickCompose; split <;> simp
@[simp] theorem tickCompose_seq (sl : Int) (c : Nat) (s : State) : (tickCompose sl c s).seq = s.seq := by
  unfold tickCompose; split <;> simp
@[simp] theorem tickCompose_nmi (sl : Int) (c : Nat) (s : State) : (tickCompose sl c s).nmi = s.nmi := by
  unfold tickCompose; split <;> simp
@[simp] theorem tickCompose_mir (sl : Int) (c : Nat) (s : State) : (tickCompose sl c s).mir = s.mir := by
  unfold tickCompose; split <;> simp
@[simp] theorem tickCompose_nametable (sl : Int) (c : Nat) (s : State) : (tickCompose sl c s).nametable = s.nametable := by
  unfold tickCompose; split <;> simp
@[simp] theorem tickCompose_palette (sl : Int) (c : Nat) (s : State) : (tickCompose sl c s).palette = s.palette := by
  unfold tickCompose; split <;> simp
@[simp] theorem tickCompose_oam (sl : Int) (c : Nat) (s : State) : (tickCompose sl c s).oam = s.oam := by
  unfold tickCompose; split <;> simp
@[simp] theorem tickCompose_cart (sl : Int) (c : Nat) (s : State) : (tickCompose sl c s).cart = s.cart := by
  unfold tickCompose; split <;> simp
@[simp] theorem tickCompose_cartLog (sl : Int) (c : Nat) (s : State) : (tickCompose sl c s).cartLog = s.cartLog := by
  unfold tickCompose; split <;> simp
@[simp] theorem tickCompose_params (sl : Int) (c : Nat) (s : State) : (tickCompose sl c s).params = s.params := by
  unfold tickCompose; split <;> simp
@[simp] theorem tickCompose_stimuli (sl : Int) (c : Nat) (s : State) : (tickCompose sl c s).stimuli = s.stimuli := by
  unfold tickCompose; split <;> simp
@[simp] theorem tickCompose_answer (sl : Int) (c : Nat) (s : State) : (tickCompose sl c s).answer = s.answer := by
  unfold tickCompose; split <;> simp
@[simp] theorem tickCompose_ctrl (sl : Int) (c : Nat) (s : State) : (tickCompose sl c s).regs.ctrl = s.regs.ctrl := by
  unfold tickCompose; split <;> simp
@[simp] theorem tickCompose_mask (sl : Int) (c : Nat) (s : State) : (tickCompose sl c s).regs.mask = s.regs.mask := by
  unfold tickCompose; split <;> simp
@[simp] theorem tickCompose_oamAddr (sl : Int) (c : Nat) (s : State) : (tickCompose sl c s).regs.oamAddr = s.regs.oamAddr := by
  unfold tickCompose; split <;> simp
@[simp] theorem tickCompose_v (sl : Int) (c : Nat) (s : State) : (tickCompose sl c s).regs.v = s.regs.v := by
  unfold tickCompose; split <;> simp
@[simp] theorem tickCompose_t (sl : Int) (c : Nat) (s : State) : (tickCompose sl c s).regs.t = s.regs.t := by
  unfold tickCompose; split <;> simp
@[simp] theorem tickCompose_fineX (sl : Int) (c : Nat) (s : State) : (tickCompose sl c s).regs.fineX = s.regs.fineX := by
  unfold tickCompose; split <;> simp
@[simp] theorem tickCompose_addressLatch (sl : Int) (c : Nat) (s : State) : (tickCompose sl c s).regs.addressLatch = s.regs.addressLatch := by
  unfold tickCompose; split <;> simp
@[simp] theorem tickCompose_ppuDataBuffer (sl : Int) (c : Nat) (s : State) : (tickCompose sl c s).regs.ppuDataBuffer = s.regs.ppuDataBuffer := by
  unfold tickCompose; split <;> simp
@[simp] theorem tickCompose_renderingEnabled (sl : Int) (c : Nat) (s : State) : (tickCompose sl c s).regs.renderingEnabled = s.regs.renderingEnabled := by
  unfold tickCompose; split <;> simp
@[simp] theorem tickCompose_slots (sl : Int) (c : Nat) (s : State) : (tickCompose sl c s).spr.slots = s.spr.slots := by
  unfold tickCompose; split <;> simp
@[simp] theorem tickCompose_count (sl : Int) (c : Nat) (s : State) : (tickCompose sl c s).spr.count = s.spr.count := by
  unfold tickCompose; split <;> simp
@[simp] theorem tickCompose_shifterLo (sl : Int) (c : Nat) (s : State) : (tickCompose sl c s).spr.shifterLo = s.spr.shifterLo := by
  unfold tickCompose; split <;> simp
@[simp] theorem tickCompose_shifterHi (sl : Int) (c : Nat) (s : State) : (tickCompose sl c s).spr.shifterHi = s.spr.shifterHi := by
  unfold tickCompose; split <;> simp
@[simp] theorem tickCompose_zeroHitPossible (sl : Int) (c : Nat) (s : State) : (tickCompose sl c s).spr.zeroHitPossible = s.spr.zeroHitPossible := by
  unfold tickCompose; split <;> simp

@[simp] theorem tickClock_bg (sl : Int) (c : Nat) (s : State) : (tickClock sl c s).bg = s.bg := by
  unfold tickClock cartClockScanline; repeat' split
  all_goals rfl
@[simp] theorem tickClock_spr (sl : Int) (c : Nat) (s : State) : (tickClock sl c s).spr = s.spr := by
  unfold tickClock cartClockScanline; repeat' split
  all_goals rfl
@[simp] theorem tickClock_eval (sl : Int) (c : Nat) (s : State) : (tickClock sl c s).eval = s.eval := by
  unfold tickClock cartClockScanline; repeat' split
  all_goals rfl
@[simp] theorem tickClock_seq (sl : Int) (c : Nat) (s : State) : (tickClock sl c s).seq = s.seq := by
  unfold tickClock cartClockScanline; repeat' split
  all_goals rfl
@[simp] theorem tickClock_nmi (sl : Int) (c : Nat) (s : State) : (tickClock sl c s).nmi = s.nmi := by
  unfold tickClock cartClockScanline; repeat' split
  all_goals rfl
@[simp] theorem tickClock_mir (sl : Int) (c : Nat) (s : State) : (tickClock sl c s).mir = s.mir := by
  unfold tickClock cartClockScanline; repeat' split
  all_goals rfl
@[simp] theorem tickClock_nametable (sl : Int) (c : Nat) (s : State) : (tickClock sl c s).nametable = s.nametable := by
  unfold tickClock cartClockScanline; repeat' split
  all_goals rfl
@[simp] theorem tickClock_palette (sl : Int) (c : Nat) (s : State) : (tickClock sl c s).palette = s.palette := by
  unfold tickClock cartClockScanline; repeat' split
  all_goals rfl
@[simp] theorem tickClock_oam (sl : Int) (c : Nat) (s : State) : (tickClock sl c s).oam = s.oam := by
  unfold tickClock cartClockScanline; repeat' split
  all_goals rfl
@[simp] theorem tickClock_frame (sl : Int) (c : Nat) (s : State) : (tickClock sl c s).frame = s.frame := by
  unfold tickClock cartClockScanline; repeat' split
  all_goals rfl
@[simp] theorem tickClock_params (sl : Int) (c : Nat) (s : State) : (tickClock sl c s).params = s.params := by
  unfold tickClock cartClockScanline; repeat' split
  all_goals rfl
@[simp] theorem tickClock_stimuli (sl : Int) (c : Nat) (s : State) : (tickClock sl c s).stimuli = s.stimuli := by
  unfold tickClock cartClockScanline; repeat' split
  all_goals rfl
@[simp] theorem tickClock_answer (sl : Int) (c : Nat) (s : State) : (tickClock sl c s).answer = s.answer := by
  unfold tickClock cartClockScanline; repeat' split
  all_goals rfl
@[simp] theorem tickClock_regs (sl : Int) (c : Nat) (s : State) : (tickClock sl c s).regs = s.regs := by
  unfold tickClock cartClockScanline; repeat' split
  all_goals rfl

@[simp] theorem tickLatch_bg (sl : Int) (c : Nat) (s : State) : (tickLatch sl c s).bg = s.bg := by
  unfold tickLatch; split <;> rfl
@[simp] theorem tickLatch_spr (sl : Int) (c : Nat) (s : State) : (tickLatch sl c s).spr = s.spr := by
  unfold tickLatch; split <;> rfl
@[simp] theorem tickLatch_eval (sl : Int) (c : Nat) (s : State) : (tickLatch sl c s).eval = s.eval := by
  unfold tickLatch; split <;> rfl
@[simp] theorem tickLatch_nmi (sl : Int) (c : Nat) (s : State) : (tickLatch sl c s).nmi = s.nmi := by
  unfold tickLatch; split <;> rfl
@[simp] theorem tickLatch_mir (sl : Int) (c : Nat) (s : State) : (tickLatch sl c s).mir = s.mir := by
  unfold tickLatch; split <;> rfl
@[simp] theorem tickLatch_nametable (sl : Int) (c : Nat) (s : State) : (tickLatch sl c s).nametable = s.nametable := by
  unfold tickLatch; split <;> rfl
@[simp] theorem tickLatch_palette (sl : Int) (c : Nat) (s : State) : (tickLatch sl c s).palette = s.palette := by
  unfold tickLatch; split <;> rfl
@[simp] theorem tickLatch_oam (sl : Int) (c : Nat) (s : State) : (tickLatch sl c s).oam = s.oam := by
  unfold tickLatch; split <;> rfl
@[simp] theorem tickLatch_frame (sl : Int) (c : Nat) (s : State) : (tickLatch sl c s).frame = s.frame := by
  unfold tickLatch; split <;> rfl
@[simp] theorem tickLatch_cart (sl : Int) (c : Nat) (s : State) : (tickLatch sl c s).cart = s.cart := by
  unfold tickLatch; split <;> rfl
@[simp] theorem tickLatch_cartLog (sl : Int) (c : Nat) (s : State) : (tickLatch sl c s).cartLog = s.cartLog := by
  unfold tickLatch; split <;> rfl
@[simp] theorem tickLatch_params (sl : Int) (c : Nat) (s : State) : (tickLatch sl c s).params = s.params := by
  unfold tickLatch; split <;> rfl
@[simp] theorem tickLatch_stimuli (sl : Int) (c : Nat) (s : State) : (tickLatch sl c s).stimuli = s.stimuli := by
  unfold tickLatch; split <;> rfl
@[simp] theorem tickLatch_answer (sl : Int) (c : Nat) (s : State) : (tickLatch sl c s).answer = s.answer := by
  unfold tickLatch; split <;> rfl
@[simp] theorem tickLatch_regs (sl : Int) (c : Nat) (s : State) : (tickLatch sl c s).regs = s.regs := by
  unfold tickLatch; split <;> rfl

@[simp] theorem tickTail_bg (sl : Int) (c : Nat) (s : State) : (tickTail sl c s).bg = s.bg := by
  simp [tickTail]
@[simp] theorem tickTail_eval (sl : Int) (c : Nat) (s : State) : (tickTail sl c s).eval = s.eval := by
  simp [tickTail]
@[simp] theorem tickTail_mir (sl : Int) (c : Nat) (s : State) : (tickTail sl c s).mir = s.mir := by
  simp [tickTail]
@[simp] theorem tickTail_nametable (sl : Int) (c : Nat) (s : State) : (tickTail sl c s).nametable = s.nametable := by
  simp [tickTail]
@[simp] theorem tickTail_palette (sl : Int) (c : Nat) (s : State) : (tickTail sl c s).palette = s.palette := by
  simp [tickTail]
@[simp] theorem tickTail_oam (sl : Int) (c : Nat) (s : State) : (tickTail sl c s).oam = s.oam := by
  simp [tickTail]
@[simp] theorem tickTail_params (sl : Int) (c : Nat) (s : State) : (tickTail sl c s).params = s.params := by
  simp [tickTail]
@[simp] theorem tickTail_stimuli (sl : Int) (c : Nat) (s : State) : (tickTail sl c s).stimuli = s.stimuli := by
  simp [tickTail]
@[simp] theorem tickTail_answer (sl : Int) (c : Nat) (s : State) : (tickTail sl c s).answer = s.answer := by
  simp [tickTail]
@[simp] theorem tickTail_ctrl (sl : Int) (c : Nat) (s : State) : (tickTail sl c s).regs.ctrl = s.regs.ctrl := by
  simp [tickTail]
@[simp] theorem tickTail_mask (sl : Int) (c : Nat) (s : State) : (tickTail sl c s).regs.mask = s.regs.mask := by
  simp [tickTail]
@[simp] theorem tickTail_oamAddr (sl : Int) (c : Nat) (s : State) : (tickTail sl c s).regs.oamAddr = s.regs.oamAddr := by
  simp [tickTail]
@[simp] theorem tickTail_v (sl : Int) (c : Nat) (s : State) : (tickTail sl c s).regs.v = s.regs.v := by
  simp [tickTail]
@[simp] theorem tickTail_t (sl : Int) (c : Nat) (s : State) : (tickTail sl c s).regs.t = s.regs.t := by
  simp [tickTail]
@[simp] theorem tickTail_fineX (sl : Int) (c : Nat) (s : State) : (tickTail sl c s).regs.fineX = s.regs.fineX := by
  simp [tickTail]
@[simp] theorem tickTail_addressLatch (sl : Int) (c : Nat) (s : State) : (tickTail sl c s).regs.addressLatch = s.regs.addressLatch := by
  simp [tickTail]
@[simp] theorem tickTail_ppuDataBuffer (sl : Int) (c : Nat) (s : State) : (tickTail sl c s).regs.ppuDataBuffer = s.regs.ppuDataBuffer := by
  simp [tickTail]
@[simp] theorem tickTail_renderingEnabled (sl : Int) (c : Nat) (s : State) : (tickTail sl c s).regs.renderingEnabled = s.regs.renderingEnabled := by
  simp [tickTail]
@[simp] theorem tickTail_slots (sl : Int) (c : Nat) (s : State) : (tickTail sl c s).spr.slots = s.spr.slots := by
  simp [tickTail]
@[simp] theorem tickTail_count (sl : Int) (c : Nat) (s : State) : (tickTail sl c s).spr.count = s.spr.count := by
  simp [tickTail]
@[simp] theorem tickTail_shifterLo (sl : Int) (c : Nat) (s : State) : (tickTail sl c s).spr.shifterLo = s.spr.shifterLo := by
  simp [tickTail]
@[simp] theorem tickTail_shifterHi (sl : Int) (c : Nat) (s : State) : (tickTail sl c s).spr.shifterHi = s.spr.shifterHi := by
  simp [tickTail]
@[simp] theorem tickTail_zeroHitPossible (sl : Int) (c : Nat) (s : State) : (tickTail sl c s).spr.zeroHitPossible = s.spr.zeroHitPossible := by
  simp [tickTail]

@[simp] theorem tickTail_seq (sl : Int) (c : Nat) (s : State) :
    (tickTail sl c s).seq = nextDot (tickLatch sl c s).seq := by
  have h : ∀ q r : State, q.seq = r.seq → q.regs.renderingEnabled = r.regs.renderingEnabled →
      (tickLatch sl c q).seq = (tickLatch sl c r).seq := by
    intro q r hq hr
    unfold tickLatch
    split
    · simp [hq, hr]
    · exact hq
  show nextDot (tickLatch sl c (tickClock sl c (tickCompose sl c (tickVblank sl c s)))).seq = _
  rw [h _ s (by simp) (by simp)]

@[simp] theorem tickTail_nmi (sl : Int) (c : Nat) (s : State) : (tickTail sl c s).nmi = (tickVblank sl c s).nmi := by
  simp [tickTail]
@[simp] theorem tickTail_frame (sl : Int) (c : Nat) (s : State) :
    (tickTail sl c s).frame = (tickCompose sl c (tickVblank sl c s)).frame := by simp [tickTail]
@[simp] theorem tickTail_spr (sl : Int) (c : Nat) (s : State) :
    (tickTail sl c s).spr = (tickCompose sl c (tickVblank sl c s)).spr := by simp [tickTail]
@[simp] theorem tickTail_status (sl : Int) (c : Nat) (s : State) :
    (tickTail sl c s).regs.status = (tickCompose sl c (tickVblank sl c s)).regs.status := by simp [tickTail]
@[simp] theorem tickTail_cart (sl : Int) (c : Nat) (s : State) : (tickTail sl c s).cart = (tickClock sl c s).cart := by
  have h : ∀ q r : State, q.cart = r.cart → q.regs.renderingEnabled = r.regs.renderingEnabled →
      (tickClock sl c q).cart = (tickClock sl c r).cart := by
    intro q r hq hr
    unfold tickClock cartClockScanline
    rw [hq, hr]
    split
    · split <;> rfl
    · exact hq
  show (tickLatch sl c (tickClock sl c (tickCompose sl c (tickVblank sl c s)))).cart = _
  rw [tickLatch_cart, h _ s (by simp) (by simp)]

@[simp] theorem clearSpriteLine_count (p : SpriteLine) : (clearSpriteLine p).count = 0 := rfl
@[simp] theorem clearSpriteLine_zeroHitPossible (p : SpriteLine) : (clearSpriteLine p).zeroHitPossible = false := rfl
@[simp] theorem clearSpriteLine_zeroBeingRendered (p : SpriteLine) :
    (clearSpriteLine p).zeroBeingRendered = p.zeroBeingRendered := rfl

/-- The sprite line after steps (a) and (b). -/
theorem tickHead_spr (s : State) : (tickHead s).spr =
    if (s.seq.scanline = -1 ∧ s.seq.cycle = 1) ∧ s.params.prerenderSpriteClear = true then clearSpriteLine s.spr
    else s.spr := by
  unfold tickHead preRenderClear
  dsimp only
  by_cases h : s.seq.scanline = -1 ∧ s.seq.cycle = 1
  · by_cases hp : s.params.prerenderSpriteClear = true <;> simp [h, hp, setVblank, State.setStatusBit]
  · simp [h]

/-- The status byte after steps (a) and (b). -/
theorem tickHead_status (s : State) : (tickHead s).regs.status =
    if s.seq.scanline = -1 ∧ s.seq.cycle = 1 then
      setBit (setBit (setBit s.regs.status hitBit false) overflowBit false) vblankBit false
    else s.regs.status := by
  unfold tickHead preRenderClear
  dsimp only
  by_cases h : s.seq.scanline = -1 ∧ s.seq.cycle = 1
  · by_cases hp : s.params.prerenderSpriteClear = true <;> simp [h, hp, setVblank, State.setStatusBit]
  · simp [h]

/-- The NMI state after steps (a) and (b). -/
theorem tickHead_nmi (s : State) : (tickHead s).nmi =
    if s.seq.scanline = -1 ∧ s.seq.cycle = 1 then
      { nmiChange { nmiCounterStep s.nmi with occurred := false } with suppressNmi := false }
    else nmiCounterStep s.nmi := by
  unfold tickHead preRenderClear
  dsimp only
  by_cases h : s.seq.scanline = -1 ∧ s.seq.cycle = 1
  · by_cases hp : s.params.prerenderSpriteClear = true <;> simp [h, hp, setVblank, State.setStatusBit]
  · simp [h]

end Sys2Proof.Machine
end

