-- ==== Sys2Proof/Laws/Run.lean ====
section
/-! SUPPORT. What a whole `TICK` does to the sequencer, the NMI state and the cartridge, and runs of ticks. -/
namespace Sys2Proof.Machine

/-- A tick that answers, as head, fetches and tail. -/
theorem execTick_cases {s t : State} (h : exec .tick s = .next t) :
    ∃ q, tickFetch s.seq.scanline s.seq.cycle (tickHead s) = .ok q ∧ t = tickTail s.seq.scanline s.seq.cycle q :=
  tickDot_cases (execTick_next.mp h)

/-- A tick whose fetches answer. -/
theorem execTick_of_fetch {s q : State} (h : tickFetch s.seq.scanline s.seq.cycle (tickHead s) = .ok q) :
    exec .tick s = .next (tickTail s.seq.scanline s.seq.cycle q) :=
  execTick_next.mpr (by unfold tickDot; rw [h])

/-- Off the fetch lines step (c) does nothing. -/
theorem tickFetch_off {sl : Int} {c : Nat} {s : State} (h : ¬ (-1 ≤ sl ∧ sl ≤ 239)) : tickFetch sl c s = .ok s := by
  unfold tickFetch
  rw [if_neg h]

/-- The fields that the fetches keep. -/
theorem tickFetch_keeps {sl : Int} {c : Nat} {s q : State} (h : tickFetch sl c s = .ok q) :
    q.seq = s.seq ∧ q.nmi = s.nmi ∧ q.frame = s.frame ∧ q.cart = s.cart ∧ q.palette = s.palette ∧
      q.nametable = s.nametable ∧ q.oam = s.oam ∧ q.params = s.params ∧ q.stimuli = s.stimuli ∧ q.answer = s.answer ∧
      q.mir.dynamic = s.mir.dynamic ∧ q.regs = { s.regs with v := q.regs.v, status := q.regs.status } := by
  obtain ⟨r, ⟨v, b, l, m, rfl⟩, ⟨st, p, e, l', m', hst, rfl⟩⟩ := tickFetch_frame h
  exact ⟨rfl, rfl, rfl, rfl, rfl, rfl, rfl, rfl, rfl, rfl, rfl, rfl⟩

/-- The status byte after the fetches: the overflow bit may have been set. -/
theorem tickFetch_status {sl : Int} {c : Nat} {s q : State} (h : tickFetch sl c s = .ok q) :
    q.regs.status = s.regs.status ∨ q.regs.status = setBit s.regs.status overflowBit true := by
  obtain ⟨r, ⟨v, b, l, m, rfl⟩, ⟨st, p, e, l', m', hst, rfl⟩⟩ := tickFetch_frame h
  exact hst

/-- The sequencer after a tick. -/
theorem tick_seq {s t : State} (h : exec .tick s = .next t) :
    t.seq = nextDot (if s.seq.scanline = -1 ∧ s.seq.cycle = 338
      then { s.seq with oddSkipLatch := s.regs.renderingEnabled } else s.seq) := by
  obtain ⟨q, hq, rfl⟩ := execTick_cases h
  have hs : q.seq = s.seq := (tickFetch_keeps hq).1.trans (tickHead_seq s)
  have hr : q.regs.renderingEnabled = s.regs.renderingEnabled := by
    obtain ⟨_, _, _, _, _, _, _, _, _, _, _, h12⟩ := tickFetch_keeps hq
    rw [h12]
    exact tickHead_renderingEnabled s
  rw [tickTail_seq]
  unfold tickLatch
  split
  · rw [State.setSeq_seq, hs, hr]
  · rw [hs]

/-- The NMI state after a tick. -/
theorem tick_nmi {s t : State} (h : exec .tick s = .next t) :
    t.nmi = (tickVblank s.seq.scanline s.seq.cycle (tickHead s)).nmi := by
  obtain ⟨q, hq, rfl⟩ := execTick_cases h
  have hn : q.nmi = (tickHead s).nmi := (tickFetch_keeps hq).2.1
  have key : ∀ a b : State, a.nmi = b.nmi → (vblankStart a).nmi = (vblankStart b).nmi := by
    intro a b hab
    unfold vblankStart setVblank State.setStatusBit
    simp only [hab]
    split_ifs <;> simp_all
  rw [tickTail_nmi]
  unfold tickVblank
  split
  · exact key _ _ hn
  · exact hn

/-- A tick never makes a cartridge fail. -/
theorem tick_neverFails {s t : State} (h : exec .tick s = .next t) (hn : s.cart.NeverFails) : t.cart.NeverFails := by
  obtain ⟨q, hq, rfl⟩ := execTick_cases h
  have hc : q.cart = s.cart := (tickFetch_keeps hq).2.2.2.1.trans (tickHead_cart s)
  rw [tickTail_cart]
  unfold tickClock cartClockScanline
  cases h1 : s.cart with
  | testT0 board => split <;> simp [hc, h1, Cart.NeverFails]
  | mapper id =>
    rw [h1] at hn
    split <;> simp [hc, h1] <;> exact hn

theorem runTicks_add (a b : Nat) (s : State) :
    runTicks (a + b) s =
      match runTicks a s with
      | .next t => runTicks b t
      | .fault f => .fault f
      | .refused r => .refused r := by
  induction a generalizing s with
  | zero => simp [runTicks]
  | succ a ih =>
    rw [Nat.succ_add]
    simp only [runTicks]
    cases exec .tick s <;> simp [ih]

/-- One more tick at the end of a run. -/
theorem runTicks_succ {k : Nat} {s t : State} (h : runTicks k s = .next t) : runTicks (k + 1) s = exec .tick t := by
  rw [runTicks_add, h]
  simp only [runTicks]
  cases exec .tick t <;> rfl

/-- With a cartridge that never fails every run of ticks answers. -/
theorem runTicks_total (k : Nat) {s : State} (hn : s.cart.NeverFails) :
    ∃ t, runTicks k s = .next t ∧ t.cart.NeverFails := by
  induction k generalizing s with
  | zero => exact ⟨s, rfl, hn⟩
  | succ k ih =>
    obtain ⟨t, ht⟩ := execTick_total hn
    obtain ⟨u, hu, hnu⟩ := ih (tick_neverFails ht hn)
    exact ⟨u, by simp [runTicks, ht, hu], hnu⟩

/-- A property that every tick keeps holds after every run of ticks. -/
theorem runTicks_keeps {P : State → Prop} (step : ∀ s t, P s → exec .tick s = .next t → P t) {k : Nat} {s t : State}
    (hs : P s) (h : runTicks k s = .next t) : P t := by
  induction k generalizing s with
  | zero => cases h; exact hs
  | succ k ih =>
    simp only [runTicks] at h
    split at h
    · rename_i u hu
      exact ih (step s u hs hu) h
    · cases h
    · cases h

end Sys2Proof.Machine
end

