-- ==== Sys2Proof/Laws/Sprites.lean ====
section
/-! SUPPORT. What evaluation and the pattern fetch of sprites can change. -/
namespace Sys2Proof.Machine

/-- A decision keeps the cursors in range. -/
theorem evalDecide_range (found : Bool) {e : SpriteEval} (h : e.InRange) (hd : e.done = false) :
    (evalDecide found e).InRange := by
  obtain ⟨h1, h2, h3, h4⟩ := h
  have hn : e.n ≠ 64 := fun hh => by simp [h3 hh] at hd
  unfold evalDecide evalDecideOverflow evalDecideY evalDecideCopy nextSprite
  cases ho : e.overflowMode
  · by_cases hm : e.m = 0#2
    · simp only [hm]
      split_ifs <;> refine ⟨?_, ?_, ?_, ?_⟩ <;> simp_all <;> omega
    · have := h4 ho hm
      simp only [hm]
      split_ifs <;> refine ⟨?_, ?_, ?_, ?_⟩ <;> simp_all <;> omega
  · cases found <;> refine ⟨?_, ?_, ?_, ?_⟩ <;> simp_all <;> omega

/-- The pattern fetch changes the shifters and what a bus read may change. -/
theorem fetchSlots_keeps {sl : Int} {l : List (Fin 8)} {s t : State} (h : fetchSlots sl l s = .ok t) :
    ∃ lo hi log m, t = { s with
      spr := { s.spr with shifterLo := lo, shifterHi := hi }, cartLog := log, mir := { s.mir with cached := m } } := by
  induction l generalizing s with
  | nil => cases h; exact ⟨_, _, _, _, rfl⟩
  | cons i l ih =>
    simp only [fetchSlots] at h
    split at h
    · split at h
      · rename_i r hr
        simp only [fetchSlotPatterns] at hr
        split at hr
        · cases hr
        · rename_i h1
          split at hr
          · cases hr
          · rename_i h2
            cases hr
            obtain ⟨_, _, rfl⟩ := ppuRead_same h1
            obtain ⟨_, _, rfl⟩ := ppuRead_same h2
            obtain ⟨_, _, _, _, rfl⟩ := ih h
            exact ⟨_, _, _, _, rfl⟩
      · cases h
    · exact ih h

end Sys2Proof.Machine
end

