-- ==== Sys2Proof/Tests/Slice0.lean ====
section
/-! SUPPORT. The model's own tests. The words are those of 30_encoding.md and 95_test_vectors.md, the expected results
those of the examples of each rule; then one witness for the hypotheses of each obligation that has any. -/
namespace Sys2Proof.Tests
open Sys2Proof.Machine Sys2Proof.Spec

/-- An outcome is a next state of which `f` holds. -/
def after (o : Host.Outcome State Fault Refusal) (f : State → Bool) : Bool :=
  match o with
  | .next t => f t
  | .fault _ => false
  | .refused _ => false

/-- The reset state with other registers. -/
def withRegs (r : Regs) : State := { State.reset with regs := r }

/-- The reset state at another dot. -/
def place (sl : Int) (c : Nat) : State :=
  { State.reset with seq := { Sequencer.start with scanline := sl, cycle := c } }

/-- The same with rendering enabled. -/
def lit (sl : Int) (c : Nat) : State :=
  { place sl c with regs := { Regs.zero with mask := 0x1E, renderingEnabled := true } }

/-- 256 payload bytes `k ↦ k`. -/
def countingPage : List Byte := (List.range 256).map fun k => BitVec.ofNat 8 k

/-- Whether a stimulus decodes to `i`. -/
def decodesTo (st : Stimulus) (i : Instr) : Bool :=
  match decode st with
  | .ok j => i == j
  | .error _ => false

/-- Whether a stimulus is refused for the reason `e`. -/
def refusedAs (st : Stimulus) (e : DecodeError) : Bool :=
  match decode st with
  | .ok _ => false
  | .error x => e == x

/-! ## Well-formedness: the one check, 256 payload bytes -/

theorem test_wellFormed_refuses_short_dma : (Instr.dma 0 (List.replicate 255 0)).wellFormed = false := by
  decide +kernel
theorem test_wellFormed_accepts_full_dma : (Instr.dma 0 (List.replicate 256 0)).wellFormed = true := by
  decide +kernel

/-! ## Decoding: every constructor by a written-out word (V-E1 to V-E8), refusals (V-E9, V-E10) -/

theorem test_decode_wPpuCtrl : decodeTableWord 16 0b0000000010000000 = some (.wPpuCtrl 0x80) := by decide
theorem test_decode_wPpuMask : decodeTableWord 16 0b0000000100011110 = some (.wPpuMask 0x1E) := by decide
theorem test_decode_wPpuStatus : decodeTableWord 16 0b0000001011111111 = some (.wPpuStatus 0xFF) := by decide
theorem test_decode_wOamAddr : decodeTableWord 16 0b0000001100000000 = some (.wOamAddr 0x00) := by decide
theorem test_decode_wOamData : decodeTableWord 16 0b0000010011110000 = some (.wOamData 0xF0) := by decide
theorem test_decode_wPpuScroll : decodeTableWord 16 0b0000010101111101 = some (.wPpuScroll 0x7D) := by decide
theorem test_decode_wPpuAddr : decodeTableWord 16 0b0000011000111111 = some (.wPpuAddr 0x3F) := by decide
theorem test_decode_wPpuData : decodeTableWord 16 0b0000011110101010 = some (.wPpuData 0xAA) := by decide
theorem test_decode_rPpuCtrl : decodeTableWord 16 0b0000100000000000 = some .rPpuCtrl := by decide
theorem test_decode_rPpuMask : decodeTableWord 16 0b0000100100000000 = some .rPpuMask := by decide
theorem test_decode_rPpuStatus : decodeTableWord 16 0b0000101001011100 = some .rPpuStatus := by decide
theorem test_decode_rOamAddr : decodeTableWord 16 0b0000101100000000 = some .rOamAddr := by decide
theorem test_decode_rOamData : decodeTableWord 16 0b0000110000000000 = some .rOamData := by decide
theorem test_decode_rPpuScroll : decodeTableWord 16 0b0000110100000000 = some .rPpuScroll := by decide
theorem test_decode_rPpuAddr : decodeTableWord 16 0b0000111000000000 = some .rPpuAddr := by decide
theorem test_decode_rPpuData : decodeTableWord 16 0b0000111100000000 = some .rPpuData := by decide
theorem test_decode_tick : decodeTableWord 16 0b0001000000000000 = some .tick := by decide
theorem test_decode_reset : decodeTableWord 16 0b0010000000000000 = some .reset := by decide
theorem test_decode_nmiAck : decodeTableWord 16 0b0011000000000000 = some .nmiAck := by decide
theorem test_decode_dma : decodesTo { word := 0b0100000000000010, payload := countingPage } (.dma 2 countingPage) := by
  decide +kernel
theorem test_decode_dma_table_word : decodeTableWord 2064 0x034002 = some (.dma 2 (3 :: List.replicate 255 0)) := by
  decide +kernel
theorem test_decode_frameAck : decodeTableWord 16 0b0101000000000000 = some .frameAck := by decide

theorem test_decode_refuses_fixed_bits :
    [0x1001, 0x2800, 0x3010, 0x5FFF].all (fun w => refusedAs { word := w, payload := [] } .nonZeroFixedBits) ∧
      refusedAs { word := 0x4102, payload := countingPage } .nonZeroFixedBits := by decide
theorem test_decode_refuses_kinds :
    [0x6000, 0xF000].all (fun w => refusedAs { word := w, payload := [] } .reservedKind) := by decide
theorem test_decode_refuses_short_dma :
    refusedAs { word := 0x4002, payload := List.replicate 255 0 } .payloadLength := by decide +kernel

/-! ## Bus writes (40_register_access.md, the example of each rule) -/

theorem test_wPpuCtrl_example : after (exec (.wPpuCtrl 0x03) State.reset) fun t =>
    t.regs.ctrl == 0x03 && t.regs.t == 0x0C00 && t.nmi == NmiState.zero := by decide
/-- R243 (1): enabling NMI while vblank is set is an edge. -/
theorem test_wPpuCtrl_arms : after (exec (.wPpuCtrl 0x80)
    { State.reset with nmi := { NmiState.zero with occurred := true } }) fun t =>
    t.nmi.delay == 14 && t.nmi.hold == 2 && t.nmi.previous && !t.nmi.flag := by decide
theorem test_wPpuMask_on : after (exec (.wPpuMask 0x1E) State.reset) fun t =>
    t.regs.mask == 0x1E && t.regs.renderingEnabled := by decide
theorem test_wPpuMask_off : after (exec (.wPpuMask 0x06) State.reset) fun t =>
    t.regs.mask == 0x06 && !t.regs.renderingEnabled := by decide
theorem test_wPpuStatus_example : after (exec (.wPpuStatus 0x00) (withRegs { Regs.zero with status := 0x80 })) fun t =>
    t.regs.status == 0x80 := by decide
theorem test_wOamAddr_example : after (exec (.wOamAddr 0xFE) State.reset) fun t => t.regs.oamAddr == 0xFE := by
  decide
theorem test_wOamData_wraps : after (exec (.wOamData 0x98) (withRegs { Regs.zero with oamAddr := 0xFF })) fun t =>
    Memory.read t.oam 0xFF == 0x98 && t.regs.oamAddr == 0x00 := by decide
theorem test_wPpuScroll_first : after (exec (.wPpuScroll 0x7D) (withRegs { Regs.zero with t := 0x0C00 })) fun t =>
    t.regs.t == 0x0C0F && t.regs.fineX == 5 && t.regs.addressLatch := by decide
theorem test_wPpuScroll_second :
    after (exec (.wPpuScroll 0x5E) (withRegs { Regs.zero with t := 0x0C0F, addressLatch := true })) fun t =>
      t.regs.t == 0x6D6F && !t.regs.addressLatch := by decide
theorem test_wPpuAddr_first : after (exec (.wPpuAddr 0x3D) (withRegs { Regs.zero with t := 0x6D6F })) fun t =>
    t.regs.t == 0x3D6F && t.regs.v == 0 && t.regs.addressLatch := by decide
theorem test_wPpuAddr_second :
    after (exec (.wPpuAddr 0xF0) (withRegs { Regs.zero with t := 0x3D6F, addressLatch := true })) fun t =>
      t.regs.t == 0x3DF0 && t.regs.v == 0x3DF0 && !t.regs.addressLatch := by decide
theorem test_wPpuData_example : after (exec (.wPpuData 0xAA) (withRegs { Regs.zero with v := 0x2000 })) fun t =>
    t.nametable == [(0, 0xAA)] && t.regs.v == 0x2001 := by decide
/-- R68 and I3: `$3F10` is the entry of `$3F00`, six bits. -/
theorem test_wPpuData_palette_alias : after (exec (.wPpuData 0xFF) (withRegs { Regs.zero with v := 0x3F10 })) fun t =>
    (t.palette[0]).toNat == 0x3F && (t.palette[16]).toNat == 0 := by decide

/-! ## Bus reads -/

theorem test_rPpuCtrl_zero : after (exec .rPpuCtrl (withRegs { Regs.zero with ctrl := 0x80 })) fun t =>
    t.answer == .byte 0 && t.regs.ctrl == 0x80 := by decide
theorem test_rPpuMask_zero : after (exec .rPpuMask (withRegs { Regs.zero with mask := 0x1E })) fun t =>
    t.answer == .byte 0 := by decide
theorem test_rPpuStatus_example :
    after (exec .rPpuStatus { place 245 0 with
      regs := { Regs.zero with status := 0xC0, ppuDataBuffer := 0x5F, addressLatch := true } }) fun t =>
      t.answer == .byte 0xDF && t.regs.status == 0x40 && !t.regs.addressLatch := by decide
/-- R131 at (241, 3): the pending NMI is cancelled at once. -/
theorem test_rPpuStatus_cancels :
    after (exec .rPpuStatus { place 241 3 with
      nmi := { NmiState.zero with occurred := true, output := true, previous := true, delay := 14, hold := 1 } }) fun t =>
      t.nmi == { NmiState.zero with output := true, suppressNmi := true } := by decide
theorem test_rOamAddr_zero : after (exec .rOamAddr (withRegs { Regs.zero with oamAddr := 0xFE })) fun t =>
    t.answer == .byte 0 := by decide
theorem test_rOamData_twice : after (runOps [.rOamData, .rOamData] { State.reset with oam := [(0, 0x02)] }) fun t =>
    t.answer == .byte 0x02 && t.regs.oamAddr == 0 := by decide
theorem test_rPpuScroll_zero : after (exec .rPpuScroll (withRegs { Regs.zero with addressLatch := true })) fun t =>
    t.answer == .byte 0 && t.regs.addressLatch := by decide
theorem test_rPpuAddr_zero : after (exec .rPpuAddr (withRegs { Regs.zero with v := 0x2000 })) fun t =>
    t.answer == .byte 0 && t.regs.v == 0x2000 := by decide
theorem test_rPpuData_buffered :
    after (exec .rPpuData { withRegs { Regs.zero with v := 0x2000 } with nametable := [(0, 0xAA)] }) fun t =>
      t.answer == .byte 0 && t.regs.ppuDataBuffer == 0xAA && t.regs.v == 0x2001 := by decide
/-- R136: a palette read is immediate, and the buffer gets the nametable byte underneath (`$2F00`, page 1 under
HORIZONTAL). -/
theorem test_rPpuData_palette :
    after (exec .rPpuData { withRegs { Regs.zero with v := 0x3F01 } with
      palette := (Vector.replicate 32 0).set 1 0x21, nametable := [(0x701, 0x77)] }) fun t =>
      t.answer == .byte 0x21 && t.regs.ppuDataBuffer == 0x77 && t.regs.v == 0x3F02 := by decide

/-! ## DMA, acknowledges, reset -/

theorem test_dma_example : after (exec (.dma 2 countingPage) (withRegs { Regs.zero with oamAddr := 0xFE })) fun t =>
    Memory.read t.oam 0xFE == 0x00 && Memory.read t.oam 0xFF == 0x01 && Memory.read t.oam 0x00 == 0x02 &&
      Memory.read t.oam 0xFD == 0xFF && t.regs.oamAddr == 0xFE := by decide +kernel
theorem test_nmiAck_true : after (exec .nmiAck { State.reset with nmi := { NmiState.zero with flag := true } }) fun t =>
    t.answer == .flag true && !t.nmi.flag := by decide
theorem test_nmiAck_false : after (exec .nmiAck State.reset) fun t => t.answer == .flag false := by decide
theorem test_frameAck_clears : after (exec .frameAck
    { State.reset with seq := { Sequencer.start with frameComplete := true } }) fun t => !t.seq.frameComplete := by
  decide
/-- `RESET` of the machine with nothing called yet gives the reset state (R260, R262). -/
theorem test_reset_gives_reset :
    after (exec .reset { State.reset with cartLog := [], regs := { Regs.zero with v := 7, status := 0x80 } })
      (fun t => t == State.reset) := by decide

/-! ## Ticks, one step each -/

/-- R224: (260, 340) → (−1, 0), the frame complete. -/
theorem test_tick_rollover : after (exec .tick (place 260 340)) fun t =>
    t.seq == { Sequencer.start with oddFrame := true, frameComplete := true } := by decide
/-- R219, S3: the tick at (241, 1) with NMI enabled. -/
theorem test_tick_vblank : after (exec .tick { place 241 1 with
    regs := { Regs.zero with ctrl := 0x80 }, nmi := { NmiState.zero with output := true } }) fun t =>
    t.regs.status == 0x80 && t.nmi.delay == 14 && t.nmi.hold == 2 && !t.nmi.flag := by decide

/-! ## The pieces a tick is made of (one case each, from the rules' examples) -/

/-- R168 and R169. -/
theorem test_increments : incrementX 0x041F = 0x0000 ∧ incrementX 0x7BFF = 0x7FE0 ∧ incrementY 0x73A0 = 0x0800 ∧
    incrementY 0x73C0 = 0x03E0 ∧ incrementY 0x7FFF = 0x0C1F := by decide
/-- V-E16. -/
theorem test_attribute_address : attributeAddr 0x0C42 = 0x2FC0 ∧ attributeAddr 0x2BDF = 0x2BFF ∧
    attributeAddr 0x7FFF = 0x2FFF ∧ attributeBits 0x0042 0xC0 = 3 := by decide
/-- R188. -/
theorem test_in_range : inRange 0 16 0x10 = true ∧ inRange 0 16 0x09 = true ∧ inRange 0 16 0x08 = false ∧
    inRange 0x20 16 0x08 = true := by decide
/-- R191. -/
theorem test_sprite_address : spriteAddr 0x08 0xFF 7 = 0x1FF7 := by decide
/-- R203. -/
theorem test_mux : mux { value := 3, palette := 0 } { value := 1, palette := 7 } false = { value := 3, palette := 0 } := by
  decide

/-! ## Steps: the word placed at reset is the operation that runs first -/

theorem test_step_runs_write : after (step (State.reset.withFetchWord 16 0x011E)) fun t =>
    t.regs.mask == 0x1E && t.stimuli == [] := by decide
theorem test_step_runs_tick : after (step (State.reset.withFetchWord 16 0x1000)) fun t =>
    t.seq == { Sequencer.start with cycle := 1 } := by decide
theorem test_step_idles : after (step State.reset) (fun t => t == State.reset) := by decide

/-! ## Witnesses -/

/-- With the test cartridge every tick answers. -/
theorem ticks (s : State) (board : T0Board) (h : s.cart = .testT0 board) : ∃ t, exec .tick s = .next t :=
  execTick_total (by rw [h]; trivial)

/-- The board of the reset state. -/
def board0 : T0Board := { chr := [], mode := none, clocks := 0 }

theorem witness_EncodedOperationsDecodeToThemselves : (Instr.dma 0xFF countingPage).wellFormed = true := by
  decide +kernel

theorem witness_StepPerformsTheDecodedOperation :
    State.reset.stimuli = [] ∧ decodesTo { word := 0x1000, payload := [] } .tick ∧
      refusedAs { word := 0x1001, payload := [] } .nonZeroFixedBits ∧
      (State.reset.withFetchWord 16 0x1000).stimuli = [{ word := 0x1000, payload := [] }] := by decide

theorem witness_OamAddressWrittenOnlyByTheCpu : ∃ t, exec .tick State.reset = .next t := ticks _ board0 rfl

theorem witness_OamDataWriteStoresAndAdvances : Memory.wf oamSize State.reset.oam = true ∧
    Memory.wf oamSize [(255, 1)] = true := by decide

theorem witness_ScrollWritePairAssemblesT : State.reset.regs.addressLatch = false ∧
    (withRegs { Regs.zero with addressLatch := true }).regs.addressLatch = true := by decide

theorem witness_AddressWritePairAssemblesT : State.reset.regs.addressLatch = false ∧
    (withRegs { Regs.zero with addressLatch := true }).regs.addressLatch = true := by decide

theorem witness_DataAccessStepsVramAddress :
    exec .rPpuData (withRegs { Regs.zero with v := 0x7FFF }) = .next { State.reset with answer := .byte 0 } := rfl

theorem witness_DataWriteReachesTheAddressedSpace :
    (busNumber 0x1FFF < 0x2000 ∧ State.reset.cart = .testT0 board0 ∧ Memory.wf chrSize board0.chr = true) ∧
    ({ State.reset with cart := .mapper 0 } : State).cart = .mapper 0 ∧
    (0x2000 ≤ busNumber 0x2000 ∧ busNumber 0x2000 < 0x3F00 ∧ 0x2000 ≤ busNumber 0x7EFF ∧ busNumber 0x7EFF < 0x3F00 ∧
      Memory.wf nametableSize State.reset.nametable = true) ∧
    0x3F00 ≤ busNumber 0x3F00 ∧ 0x3F00 ≤ busNumber 0x7FFF := by decide

theorem witness_WriteOnlyRegistersReadZero :
    Instr.rPpuCtrl ∈ [Instr.rPpuCtrl, .rPpuMask, .rOamAddr, .rPpuScroll, .rPpuAddr] := by decide

/-- At each of the positions that the clauses name, and just past them. -/
theorem witness_StatusReadAnswersAndClears : At (place 241 1) 241 1 ∧ At (place 241 2) 241 2 ∧ At (place 241 3) 241 3 ∧
    ¬ (At (place 241 1) 241 2 ∨ At (place 241 1) 241 3) ∧ ¬ (At (place 241 4) 241 2 ∨ At (place 241 4) 241 3) := by
  decide

/-- (241, 0) with NMI enabled and nothing pending. -/
def beforeVblank : State :=
  { place 241 0 with regs := { Regs.zero with ctrl := 0x80 }, nmi := { NmiState.zero with output := true } }

theorem beforeVblank_inv : Inv beforeVblank :=
  { position := ⟨by decide, by decide, by decide⟩
    copies := ⟨by decide, by decide, by decide, by decide⟩
    statusLow := by decide
    evalRange := ⟨by decide, by decide, by decide, by decide⟩
    spriteCount := by decide
    nmiRange := ⟨by decide, by decide, by decide⟩
    memories := ⟨by decide, by decide, by decide, by decide⟩ }

theorem witness_StatusReadRaceAroundVblank : Inv beforeVblank ∧ At beforeVblank 241 0 ∧
    bit beforeVblank.regs.ctrl 7 = true ∧ bit beforeVblank.regs.status 7 = false ∧
    beforeVblank.nmi.suppressVblank = false ∧ beforeVblank.nmi.suppressNmi = false ∧ beforeVblank.nmi.flag = false ∧
    beforeVblank.nmi.delay = 0 ∧ 4 + 6816 ≤ 6820 :=
  ⟨beforeVblank_inv, by decide, by decide, by decide, by decide, by decide, by decide, by decide, by decide⟩

theorem witness_BufferedDataRead : 0x3F00 ≤ busNumber 0x3F00 ∧ (0x2000 ≤ busNumber 0x3EFF ∧ busNumber 0x3EFF < 0x3F00) ∧
    (busNumber 0x4000 < 0x2000 ∧ cartReadAnswer State.reset (BitVec.ofNat 13 (busNumber 0x4000)) = some 0) := by decide

theorem witness_MapperFaultOnlyFromPatternReads : State.reset.cart.NeverFails ∧
    ¬ (Instr.wPpuData 0 = .rPpuData ∨ (Instr.wPpuData 0 = .tick ∧ OnFetchLine State.reset)) := ⟨trivial, by decide⟩

theorem witness_DmaFillsOamFromOamAddress : countingPage.length = 256 ∧ Memory.wf oamSize State.reset.oam = true ∧
    (countingPage.take 255).length ≠ 256 := by decide +kernel

theorem witness_DmaEqualsOamDataWrites : countingPage.length = 256 := by decide +kernel

theorem witness_FrameAcknowledgeClearsOneFlag : ∃ s t, exec .tick s = .next t ∧ s.seq.frameComplete = true := by
  obtain ⟨t, ht⟩ := ticks { place 0 0 with seq := { Sequencer.start with frameComplete := true } } board0 rfl
  exact ⟨_, t, ht, rfl⟩

theorem witness_ResetZeroesRegistersAndSeedsPalette : cartMirroringAnswer State.reset = none ∧
    cartMirroringAnswer { State.reset with cart := .testT0 { board0 with mode := some .vertical } } = some .vertical := by
  decide

/-- An NMI just armed at a dot. -/
def armedAt (sl : Int) (c : Nat) : State :=
  { place sl c with nmi := { NmiState.zero with occurred := true, output := true, previous := true, delay := 14, hold := 2 } }

/-- On a line where nothing else happens. -/
def armed : State := armedAt 242 0

/-- No tick of the sixteen stands at (241, 1): far from it, and across the pre-render clear (V-NMI6). -/
theorem armed_quiet : ∀ k < 16, (after (runTicks k armed) fun t => decide (¬ At t 241 1)) ∧
    after (runTicks k (armedAt (-1) 0)) fun t => decide (¬ At t 241 1) := by decide +kernel

/-- V-NMI6: an NMI armed at (−1, 0) fires after the clear at (−1, 1), one armed at (−1, 1) never does. -/
theorem test_tick_nmi_across_prerender : (after (runTicks 16 (armedAt (-1) 0)) fun t => t.nmi.flag && !t.nmi.occurred) ∧
    after (runTicks 16 (armedAt (-1) 1)) fun t => !t.nmi.flag && t.nmi.delay == 0 := by decide +kernel

theorem witness_NmiRaisedSixteenTicksAfterArming : ∀ s ∈ [armed, armedAt (-1) 0], s.cart.NeverFails ∧ s.nmi.delay = 14 ∧
    s.nmi.hold = 2 ∧ s.nmi.output = true ∧ s.nmi.occurred = true ∧ s.nmi.flag = false ∧ ¬ At s (-1) 1 ∧
    ∀ k t, k < 16 → runTicks k s = .next t → ¬ At t 241 1 := by
  intro s hs
  rw [List.mem_cons, List.mem_singleton] at hs
  rcases hs with rfl | rfl
  · refine ⟨trivial, by decide, by decide, by decide, by decide, by decide, by decide, fun k t hk h => ?_⟩
    have := (armed_quiet k hk).1
    rw [h] at this
    simpa only [after, decide_eq_true_eq] using this
  · refine ⟨trivial, by decide, by decide, by decide, by decide, by decide, by decide, fun k t hk h => ?_⟩
    have := (armed_quiet k hk).2
    rw [h] at this
    simpa only [after, decide_eq_true_eq] using this

theorem witness_TickStepsNmiCounters : (∃ t, exec .tick armed = .next t) ∧ ¬ At armed (-1) 1 ∧ ¬ At armed 241 1 ∧
    State.reset.nmi.delay = 0 ∧ 0 < armed.nmi.delay ∧ 0 < armed.nmi.hold ∧
    ({ armed.nmi with output := false, hold := 0 } : NmiState).hold = 0 :=
  ⟨ticks _ board0 rfl, by decide⟩

/-- (241, 1) with other NMI state. -/
def vblankDot (n : NmiState) : State := { place 241 1 with nmi := n }

/-- Each flag set and clear, and the line rising and not. -/
theorem witness_VblankStartsAtDotOneOfLine241 : (∀ n, At (vblankDot n) 241 1) ∧
    ({ NmiState.zero with suppressVblank := true } : NmiState).suppressVblank = true ∧
    ({ NmiState.zero with suppressNmi := true } : NmiState).suppressNmi = true ∧
    (NmiState.zero.suppressNmi = false ∧ ¬ (NmiState.zero.suppressVblank = false ∧ NmiState.zero.output = true ∧
      NmiState.zero.previous = false)) ∧
    (({ NmiState.zero with output := true } : NmiState).suppressVblank = false ∧
      ({ NmiState.zero with output := true } : NmiState).output = true ∧
      ({ NmiState.zero with output := true } : NmiState).previous = false) :=
  ⟨fun _ => ⟨rfl, rfl⟩, by decide⟩

/-- The pre-render dot under the open parameter, with one active slot left from line 239. -/
def clearing : State :=
  { place (-1) 1 with
    params := { Config.specTest with prerenderSpriteClear := true }
    spr := { SpriteLine.zero with
      count := 1, zeroHitPossible := true, slots := Vector.replicate 8 { y := 0xEF, tile := 1, attr := 2, x := 3 } } }

/-- D17: the active slot is zeroed with the count and the flag; the stale slots stay. -/
theorem test_tick_prerender_clear : after (exec .tick clearing) fun t =>
    t.spr.count == 0 && !t.spr.zeroHitPossible && t.spr.slots[0] == Slot.zero && t.spr.slots[1].y == 0xEF := by decide

theorem witness_PreRenderLineClearsFlags : At (place (-1) 1) (-1) 1 ∧ (place (-1) 1).params.prerenderSpriteClear = false ∧
    At clearing (-1) 1 ∧ clearing.params.prerenderSpriteClear = true ∧ 0 < clearing.spr.count ∧
    ¬ 1 < clearing.spr.count := by decide

theorem witness_SuppressVblankEndsWithItsDot : ∃ s t, SuppressOnlyAtVblank s ∧ s.nmi.suppressVblank = true ∧
    step s = .next t := by
  obtain ⟨t, ht⟩ := ticks { place 241 1 with nmi := { NmiState.zero with suppressVblank := true } } board0 rfl
  exact ⟨{ place 241 1 with
    nmi := { NmiState.zero with suppressVblank := true }, stimuli := [{ word := 0x1000, payload := [] }] }, t,
    fun _ => by decide, rfl, ht⟩

/-- Every transition of the sequencer, at its boundary. -/
theorem witness_TickAdvancesTheSequencer : ∀ p ∈ [((-1 : Int), 338), (-1, 339), (-1, 340), (0, 0), (259, 340), (260, 340)],
    (place p.1 p.2).seq.InRange ∧ ∃ t, exec .tick (place p.1 p.2) = .next t := by
  intro p hp
  have : -1 ≤ p.1 ∧ p.1 ≤ 260 ∧ p.2 ≤ 340 := by revert p; decide
  exact ⟨this, ticks _ board0 rfl⟩

theorem witness_TickAdvancesTheSequencer_skip : ∃ s t, s.seq.InRange ∧ exec .tick s = .next t ∧ At s (-1) 339 ∧
    s.seq.oddFrame = true ∧ s.seq.oddSkipLatch = true := by
  obtain ⟨t, ht⟩ := ticks { place 0 0 with
    seq := { Sequencer.start with cycle := 339, oddFrame := true, oddSkipLatch := true } } board0 rfl
  exact ⟨_, t, ⟨by decide, by decide, by decide⟩, ht, by decide⟩

theorem witness_TickCompletesUnlessAPatternReadFails : (place 0 340).seq.InRange ∧ (place 0 340).cart.NeverFails ∧
    (place 240 0).seq.InRange ∧ ¬ OnFetchLine (place 240 0) ∧ (place 260 340).seq.InRange ∧
    At { place (-1) 339 with
      seq := { Sequencer.start with cycle := 339, oddFrame := true, oddSkipLatch := true } } (-1) 339 :=
  ⟨⟨by decide, by decide, by decide⟩, trivial, ⟨by decide, by decide, by decide⟩, by decide,
    ⟨by decide, by decide, by decide⟩, by decide⟩

theorem witness_FrameLengthWithOddSkip : State.reset.cart.NeverFails ∧ At State.reset (-1) 0 := ⟨trivial, by decide⟩

theorem witness_VblankAndNmiAfterReset : State.reset.cart.NeverFails ∧ bit 0x80#8 7 = true ∧
    ∃ a, runOps [.reset, .wPpuCtrl 0x80] State.reset = .next a := ⟨trivial, by decide, _, rfl⟩

/-- A tick answers, from a dot of each kind, with rendering on and off. -/
theorem witness_TickIncrementsScroll : (∃ t, exec .tick (lit 0 256) = .next t) ∧ OnFetchLine (lit 0 256) ∧
    (∃ t, exec .tick (lit (-1) 328) = .next t) ∧ InWindow 328 ∧ (∃ t, exec .tick (place 240 8) = .next t) ∧
    ¬ (OnFetchLine (place 240 8) ∧ (place 240 8).regs.renderingEnabled = true) ∧
    (lit 0 256).regs.renderingEnabled = true ∧ ¬ ((lit (-1) 328).seq.scanline = -1 ∧ 280 ≤ (lit (-1) 328).seq.cycle ∧
      (lit (-1) 328).seq.cycle ≤ 304) :=
  ⟨ticks _ board0 rfl, by decide, ticks _ board0 rfl, by decide, ticks _ board0 rfl, by decide, by decide, by decide⟩

theorem witness_TickTransfersScroll : (∃ t, exec .tick (lit 239 257) = .next t) ∧ OnFetchLine (lit 239 257) ∧
    (∃ t, exec .tick (lit (-1) 280) = .next t) ∧ (∃ t, exec .tick (lit (-1) 304) = .next t) ∧
    (∃ t, exec .tick (place 0 257) = .next t) ∧ (place 0 257).regs.renderingEnabled = false :=
  ⟨ticks _ board0 rfl, by decide, ticks _ board0 rfl, ticks _ board0 rfl, ticks _ board0 rfl, by decide⟩

theorem witness_BackgroundShiftersShiftAndLoad : (∃ t, exec .tick (lit 0 2) = .next t) ∧
    (OnFetchLine (lit 0 2) ∧ InWindow 2) ∧ (∃ t, exec .tick (lit 239 337) = .next t) ∧
    (OnFetchLine (lit 239 337) ∧ InWindow 337) ∧ (∃ t, exec .tick (lit 0 258) = .next t) ∧
    ¬ (OnFetchLine (lit 0 258) ∧ InWindow 258) :=
  ⟨ticks _ board0 rfl, by decide, ticks _ board0 rfl, by decide, ticks _ board0 rfl, by decide⟩

/-- One dot of each fetch, a dot of the window without one, and dots outside it, the dummy fetches among them. -/
theorem witness_BackgroundFetchesFillLatches :
    (∀ c ∈ [9, 11, 13, 15, 16], (∃ t, exec .tick (lit 0 c) = .next t) ∧ OnFetchLine (lit 0 c) ∧ InWindow (lit 0 c).seq.cycle) ∧
    ∀ c ∈ [1, 258, 338, 340], (∃ t, exec .tick (lit 0 c) = .next t) ∧
      ¬ (OnFetchLine (lit 0 c) ∧ InWindow (lit 0 c).seq.cycle) := by
  refine ⟨fun c hc => ?_, fun c hc => ?_⟩
  · have : InWindow c := by revert c; decide
    exact ⟨ticks _ board0 rfl, (by decide : OnFetchLine (place 0 0)), this⟩
  · have : ¬ InWindow c := by revert c; decide
    exact ⟨ticks _ board0 rfl, fun h => this h.2⟩

/-- A line with one active slot. -/
def oneSprite (c : Nat) (x : Byte) : State :=
  { lit 16 c with
    spr := { SpriteLine.zero with
      count := 1, slots := (Vector.replicate 8 Slot.zero).set 0 { y := 0x10, tile := 1, attr := 0, x := x } } }

theorem witness_SpriteCountdownAndShift : (∃ t, exec .tick (oneSprite 2 8) = .next t) ∧ OnVisibleLine (oneSprite 2 8) ∧
    0 < (oneSprite 2 8).spr.count ∧ 0 < ((oneSprite 2 8).spr.slots[0]).x.toNat ∧
    ((oneSprite 256 0).spr.slots[0]).x.toNat = 0 ∧ ¬ 1 < (oneSprite 2 8).spr.count :=
  ⟨ticks _ board0 rfl, by decide⟩

theorem witness_SpriteLineCopiedAtDot257 : OnVisibleLine (lit 239 257) ∧ (lit 239 257).seq.cycle = 257 := by decide

theorem witness_SpritePatternsFetchedAtDot340 : OnVisibleLine (oneSprite 340 8) ∧ (oneSprite 340 8).seq.cycle = 340 ∧
    (oneSprite 340 8).cart = .testT0 board0 ∧ 0 < (oneSprite 340 8).spr.count ∧
    SpriteOnLine (oneSprite 340 8).regs.ctrl (oneSprite 340 8).seq.scanline ((oneSprite 340 8).spr.slots[0]).y ∧
    ¬ 1 < (oneSprite 340 8).spr.count := by decide

theorem witness_EvaluationReadsOnOddDots : ∀ c ∈ [65, 67, 255], (∃ t, exec .tick (lit 0 c) = .next t) ∧
    OnVisibleLine (lit 0 c) ∧ (lit 0 c).eval.done = false ∧ (lit 0 c).regs.renderingEnabled = true ∧
    (∃ t, exec .tick (place 0 c) = .next t) ∧ (place 0 c).regs.renderingEnabled = false := by
  intro c _
  exact ⟨ticks _ board0 rfl, (by decide : OnVisibleLine (place 0 0)), rfl, rfl, ticks _ board0 rfl, rfl⟩

/-- An evaluation state at an even dot of line 16. -/
def evaluating (e : SpriteEval) : State := { lit 16 66 with eval := e }

/-- Each clause: overflow hit and miss; Y miss, Y hit with room and without; a copy of byte 1 and of byte 3. -/
theorem witness_EvaluationDecidesOnEvenDots :
    (∀ e, (∃ t, exec .tick (evaluating e) = .next t) ∧ OnVisibleLine (evaluating e) ∧
      (evaluating e).seq.cycle = 66 ∧ (evaluating e).regs.renderingEnabled = true) ∧
    (SpriteEval.zero.done = false ∧ SpriteEval.zero.overflowMode = false ∧ SpriteEval.zero.m = 0#2 ∧
      SpriteEval.zero.count < 8 ∧ ({ SpriteEval.zero with overflowMode := true } : SpriteEval).overflowMode = true ∧
      8 ≤ ({ SpriteEval.zero with count := 8 } : SpriteEval).count ∧
      ({ SpriteEval.zero with m := 1 } : SpriteEval).m ≠ 0#2 ∧ ({ SpriteEval.zero with m := 3 } : SpriteEval).m = 3#2) ∧
    SpriteOnLine 0 16 0x09 ∧ ¬ SpriteOnLine 0 16 0x08 ∧ ¬ SpriteOnLine 0 16 0x11 :=
  ⟨fun _ => ⟨ticks _ board0 rfl, (by decide : OnVisibleLine (place 16 0)), rfl, rfl⟩, by decide, by decide, by decide, by decide⟩

theorem witness_EvaluationFinishesInItsWindow : (lit 239 65).cart.NeverFails ∧ OnVisibleLine (lit 239 65) ∧
    (lit 239 65).seq.cycle = 65 ∧ (lit 239 65).regs.renderingEnabled = true := ⟨trivial, by decide⟩

theorem witness_EvaluationSelectsTheFirstEightSprites : (lit 0 65).cart.NeverFails ∧ OnVisibleLine (lit 0 65) ∧
    (lit 0 65).seq.cycle = 65 ∧ (lit 0 65).regs.renderingEnabled = true ∧
    (spritesOnLine 0 0 (lit 0 65).oam)[7]? = some 7 := ⟨trivial, by decide⟩

theorem witness_PriorityMultiplexerTable : (Pixel.clear).value = 0 ∧
    ({ value := 3, palette := 0 } : Pixel).value ≠ 0 := by decide

theorem witness_TickWritesTheComposedPixel : (∃ t, exec .tick (lit 239 256) = .next t) ∧ OnComposedDot (lit 239 256) ∧
    Memory.wf frameSize (lit 239 256).frame = true ∧ OnComposedDot (lit 0 1) ∧
    (∃ t, exec .tick (lit 0 257) = .next t) ∧ ¬ OnComposedDot (lit 0 257) ∧ ¬ OnComposedDot (lit 0 0) ∧
    ¬ OnComposedDot (lit (-1) 1) ∧ ¬ OnComposedDot (lit 240 1) :=
  ⟨ticks _ board0 rfl, by decide, by decide, by decide, ticks _ board0 rfl, by decide⟩

theorem witness_SpriteZeroHitCondition : (∃ t, exec .tick (oneSprite 256 0) = .next t) ∧
    OnComposedDot (oneSprite 256 0) ∧ OnComposedDot (oneSprite 8 0) := ⟨ticks _ board0 rfl, by decide⟩

theorem witness_RenderingDisabledShowsBackdrop : (∃ t, exec .tick (place 0 1) = .next t) ∧
    Memory.wf frameSize (place 0 1).frame = true ∧ OnComposedDot (place 0 1) ∧ bit (place 0 1).regs.mask 3 = false ∧
    bit (place 0 1).regs.mask 4 = false := ⟨ticks _ board0 rfl, by decide⟩

theorem witness_UnusedRegisterBitsHaveNoEffect :
    SameUsedBits State.reset (withRegs { Regs.zero with ctrl := 0x43, mask := 0xE1 }) :=
  ⟨0x43, 0xE1, rfl, by decide, by decide⟩

theorem witness_PaletteAliasesShareStorage :
    (0x3F00 ≤ busNumber 0x3F10 ∧ 0x3F00 ≤ busNumber 0x7F00 ∧
      paletteIndex (busNumber 0x7F00) = paletteIndex (busNumber 0x3F10) ∧
      paletteIndex (busNumber 0x3F11) ≠ paletteIndex (busNumber 0x3F10)) ∧
    ∃ t, exec (.wPpuData 0xFF) (withRegs { Regs.zero with v := 0x3F10 }) = .next t := ⟨by decide, _, rfl⟩

theorem witness_MirroringQueriedUnderDynamicMirroring : (0x2000 ≤ busNumber 0x2000 ∧ busNumber 0x2000 < 0x3F00) ∧
    State.reset.mir.dynamic = false ∧
    ({ State.reset with mir := { dynamic := true, cached := .vertical } } : State).mir.dynamic = true := by decide

/-- `$2000` and `$6400` are one byte under horizontal mirroring. -/
theorem witness_NametableMirroringAndRoundTrip :
    (State.reset.mir.dynamic = false ∧ Memory.wf nametableSize State.reset.nametable = true ∧
      0x2000 ≤ busNumber 0x2000 ∧ busNumber 0x2000 < 0x3F00 ∧ 0x2000 ≤ busNumber 0x6400 ∧ busNumber 0x6400 < 0x3F00 ∧
      0x2000 ≤ busNumber 0x3EFF ∧ busNumber 0x3EFF < 0x3F00 ∧
      nametableByte State.reset.mir.cached (busNumber 0x6400) = nametableByte State.reset.mir.cached (busNumber 0x2000)) ∧
    ∃ t, exec (.wPpuData 0xAA) (withRegs { Regs.zero with v := 0x2000 }) = .next t := ⟨by decide, _, rfl⟩

theorem witness_TickFrameAndScanlineClock : (∃ t, exec .tick (lit 239 260) = .next t) ∧
    (lit 239 260).cart = .testT0 board0 ∧ (∃ t, exec .tick (lit (-1) 260) = .next t) ∧
    (∃ t, exec .tick (lit 240 260) = .next t) ∧ ({ lit 240 0 with cart := .mapper 3 } : State).cart = .mapper 3 :=
  ⟨ticks _ board0 rfl, rfl, ticks _ board0 rfl, ticks _ board0 rfl, rfl⟩

/-- The pieces differ after some operation: a register, OAM, video memory, the sequencer. -/
theorem witness_OnlyTheseOperationsWriteEachPiece :
    after (exec (.wPpuCtrl 3) State.reset) (fun t => t.regs.ctrl != 0 && t.regs.t != 0) ∧
    after (exec (.wOamData 3) State.reset) (fun t => t.oam != [] && t.regs.oamAddr != 0) ∧
    after (exec (.wPpuData 3) (withRegs { Regs.zero with v := 0x2000 })) (fun t => t.nametable != [] && t.regs.v != 0x2000) ∧
    after (exec .tick State.reset) (fun t => t.seq != Sequencer.start) := by decide

theorem witness_HitAndOverflowFlagsAreSticky :
    after (exec .tick { place (-1) 1 with regs := { Regs.zero with status := 0x60 } }) (fun t =>
      !bit t.regs.status 5 && !bit t.regs.status 6) ∧ bit 0x60#8 5 = true ∧ bit 0x60#8 6 = true := by decide

theorem witness_InvariantKeptByEveryStep : Inv beforeVblank ∧ step beforeVblank = .next beforeVblank :=
  ⟨beforeVblank_inv, rfl⟩

/-- A tick with no read, with each background read, and with the reads of dot 340. -/
theorem witness_TickReadsTheBus : (∃ q, busReads (place 240 0) (tickReads (place 240 0)) = some ([], q)) ∧
    (∃ q, busReads (lit 0 13) (tickReads (lit 0 13)) = some ([0], q)) ∧
    (∃ q, busReads (oneSprite 340 8) (tickReads (oneSprite 340 8)) = some ([0, 0, 0], q)) ∧
    OnVisibleLine (oneSprite 340 8) ∧ (oneSprite 340 8).seq.cycle = 340 ∧ 0 < (oneSprite 340 8).spr.count :=
  ⟨⟨_, rfl⟩, ⟨_, rfl⟩, ⟨_, rfl⟩, by decide⟩

/-- R190's example: on line 16 tile 1 of slot 0 is read at `$0010` and `$0018`, after the dummy fetch. -/
theorem test_sprite_reads : tickReads (oneSprite 340 8) = [0x2000, 0x0010, 0x0018] := by decide

theorem witness_SpriteStateStaysOutsideItsDots : ∀ c ∈ [0, 1, 258, 339], (∃ t, exec .tick (lit 0 c) = .next t) ∧
    ¬ At (lit 0 c) (-1) 1 ∧ ¬ (OnVisibleLine (lit 0 c) ∧
      (2 ≤ (lit 0 c).seq.cycle ∧ (lit 0 c).seq.cycle ≤ 257 ∨ (lit 0 c).seq.cycle = 340)) ∧
    ¬ (OnVisibleLine (lit 0 c) ∧ (lit 0 c).seq.cycle = 257) ∧
    ¬ (OnVisibleLine (lit 0 c) ∧ 65 ≤ (lit 0 c).seq.cycle ∧ (lit 0 c).seq.cycle ≤ 256 ∧
      (lit 0 c).regs.renderingEnabled = true) ∧ ¬ OnComposedDot (lit 0 0) := by
  intro c hc
  have h : ¬ (2 ≤ c ∧ c ≤ 257 ∨ c = 340) ∧ c ≠ 257 ∧ ¬ (65 ≤ c ∧ c ≤ 256) := by revert c; decide
  exact ⟨ticks _ board0 rfl, fun h => (by decide : ¬ (0 : Int) = -1) h.1, fun k => h.1 k.2, fun k => h.2.1 k.2,
    fun k => h.2.2 ⟨k.2.1, k.2.2.1⟩, by decide⟩

theorem witness_StatusFlagsAfterEveryTick : (∃ t, exec .tick (place (-1) 1) = .next t) ∧
    (∃ t, exec .tick (place 241 1) = .next t) ∧ (∃ t, exec .tick (oneSprite 8 0) = .next t) ∧
    (∃ t, exec .tick (evaluating { SpriteEval.zero with overflowMode := true, readLatch := 0x10 }) = .next t) ∧
    Decides (evaluating { SpriteEval.zero with overflowMode := true, readLatch := 0x10 }) :=
  ⟨ticks _ board0 rfl, ticks _ board0 rfl, ticks _ board0 rfl, ticks _ board0 rfl, by unfold Decides; decide⟩

/-- D23: the winning slot 0 sets `sprite_zero_being_rendered` only when `sprite_zero_hit_possible`. -/
theorem test_compose_zero_flag : ∀ b : Bool,
    (compose 16 9 { oneSprite 9 0 with
      spr := { (oneSprite 9 0).spr with zeroHitPossible := b, shifterLo := Vector.replicate 8 0x80 } }).spr.zeroBeingRendered = b := by
  decide

end Sys2Proof.Tests
end

/-! ## The PPU bus in the numbers of the spec (20_memory.md R61 to R68) -/

namespace Sys2Proof.Machine
open Sys2Proof.Spec

@[simp] theorem busAddr_toNat_eq_busNumber (v : VramAddr) : (busAddr v).toNat = busNumber v := busAddr_toNat v

/-- The mirroring map is the table of R66. -/
theorem pageOf_toNat (m : Mirroring) (k : BitVec 2) : (pageOf m k).toNat = physicalPage m k.toNat := by
  cases m <;> revert k <;> decide

theorem nametableCell_eq_nametableByte (m : Mirroring) (a : BusAddr) :
    nametableCell m a = nametableByte m a.toNat := by
  rw [nametableCell, nametableKey, pageOf_toNat, field_toNat, BitVec.toNat_setWidth]
  rfl

/-- The alias rule of R68: an address that loses bit 4 is exactly a multiple of 4. -/
theorem palIndex_toNat (a : BusAddr) : (palIndex a).toNat = paletteIndex a.toNat := by
  have low : ∀ p : BitVec 5,
      (if p = 0x10#5 ∨ p = 0x14#5 ∨ p = 0x18#5 ∨ p = 0x1C#5 then p - 0x10#5 else p).toNat =
        paletteIndex p.toNat := by decide
  have periodic : paletteIndex (a.toNat % 32) = paletteIndex a.toNat := by
    simp only [paletteIndex, Nat.mod_mod_of_dvd _ (by decide : 4 ∣ 32), Nat.mod_mod_of_dvd _ (by decide : 16 ∣ 32),
      Nat.mod_mod]
  have h := low (a.setWidth 5)
  rw [BitVec.toNat_setWidth] at h
  exact h.trans periodic

/-! ## The palette -/

theorem paletteGet_toNat (p : Vector (BitVec 6) 32) (i : BitVec 5) :
    (paletteGet p i).toNat = paletteEntry p i.toNat := by
  rw [paletteGet, paletteEntry, dif_pos i.isLt]

@[simp] theorem paletteGet_paletteSet_same (p : Vector (BitVec 6) 32) (i : BitVec 5) (c : BitVec 6) :
    paletteGet (paletteSet p i c) i = c := by
  simp [paletteGet, paletteSet]

theorem paletteGet_paletteSet_other {i j : BitVec 5} (h : j ≠ i) (p : Vector (BitVec 6) 32) (c : BitVec 6) :
    paletteGet (paletteSet p i c) j = paletteGet p j := by
  have hne : i.toNat ≠ j.toNat := fun e => h (BitVec.eq_of_toNat_eq e.symm)
  exact Vector.getElem_set_ne i.isLt j.isLt hne

/-- The entries after a store, by number. -/
theorem paletteEntry_paletteSet (p : Vector (BitVec 6) 32) (i : BitVec 5) (c : BitVec 6) (j : Nat) (hj : j < 32) :
    paletteEntry (paletteSet p i c) j = if j = i.toNat then c.toNat else paletteEntry p j := by
  have hnum : (BitVec.ofNat 5 j).toNat = j := Nat.mod_eq_of_lt hj
  rw [← hnum, ← paletteGet_toNat, ← paletteGet_toNat]
  by_cases h : BitVec.ofNat 5 j = i
  · rw [h, if_pos rfl, paletteGet_paletteSet_same]
  · rw [if_neg (fun e => h (BitVec.eq_of_toNat_eq e)), paletteGet_paletteSet_other h]

theorem paletteIndex_lt (a : Nat) : paletteIndex a < 32 := by
  unfold paletteIndex
  split <;> omega

/-! ## Bus accesses by region -/

/-- Under static mirroring the cartridge is not asked (R67). -/
theorem queryMirroring_of_static {s : State} (h : s.mir.dynamic = false) : queryMirroring s = s := by
  simp [queryMirroring, h]

theorem ppuRead_of_nametable {a : BusAddr} (s : State) (h1 : 0x2000 ≤ a.toNat) (h2 : a.toNat < 0x3F00) :
    ppuRead a s = .ok (Memory.read (queryMirroring s).nametable (nametableByte (queryMirroring s).mir.cached a.toNat),
      queryMirroring s) := by
  rw [ppuRead, if_neg (by omega), if_pos h2, ← nametableCell_eq_nametableByte]

theorem ppuRead_of_palette {a : BusAddr} (s : State) (h : 0x3F00 ≤ a.toNat) :
    ppuRead a s = .ok (BitVec.ofNat 8 (paletteEntry s.palette (paletteIndex a.toNat)), s) := by
  rw [ppuRead, if_neg (by omega), if_neg (by omega), ← palIndex_toNat, ← paletteGet_toNat,
    BitVec.ofNat_toNat]

theorem ppuWrite_of_nametable {a : BusAddr} (b : Byte) (s : State) (h1 : 0x2000 ≤ a.toNat) (h2 : a.toNat < 0x3F00) :
    ppuWrite a b s = (queryMirroring s).setNametable
      (Memory.write (queryMirroring s).nametable (nametableByte (queryMirroring s).mir.cached a.toNat) b) := by
  rw [ppuWrite, if_neg (by omega), if_pos h2, ← nametableCell_eq_nametableByte]

theorem ppuWrite_of_palette {a : BusAddr} (b : Byte) (s : State) (h : 0x3F00 ≤ a.toNat) :
    ppuWrite a b s = s.setPalette (paletteSet s.palette (palIndex a) (b.setWidth 6)) := by
  rw [ppuWrite, if_neg (by omega), if_neg (by omega)]

theorem fetchInto_of_ppuRead {a : BusAddr} {k : Byte → State → State} {s q : State} {b : Byte}
    (h : ppuRead a s = .ok (b, q)) : fetchInto a k s = .ok (k b q) := by
  rw [fetchInto, h]

/-! ## `W.PPUDATA` and `R.PPUDATA` by region (40_register_access.md R128, R136) -/

@[simp] theorem stepVram_mir (s : State) : (stepVram s).mir = s.mir := rfl
@[simp] theorem stepVram_nametable (s : State) : (stepVram s).nametable = s.nametable := rfl
@[simp] theorem stepVram_palette (s : State) : (stepVram s).palette = s.palette := rfl

@[simp] theorem finishDataRead_answer (r b : Byte) (s : State) : (finishDataRead r b s).answer = .byte r := rfl
@[simp] theorem finishDataRead_ppuDataBuffer (r b : Byte) (s : State) :
    (finishDataRead r b s).regs.ppuDataBuffer = b := rfl

/-- A store through the nametable region. -/
theorem exec_wPpuData_of_nametable (d : Byte) (s : State) (h1 : 0x2000 ≤ busNumber s.regs.v)
    (h2 : busNumber s.regs.v < 0x3F00) :
    exec (.wPpuData d) s = .next (stepVram ((queryMirroring s).setNametable (Memory.write (queryMirroring s).nametable
      (nametableByte (queryMirroring s).mir.cached (busNumber s.regs.v)) d))) := by
  have hw := ppuWrite_of_nametable (a := busAddr s.regs.v) d s (by simpa using h1) (by simpa using h2)
  rw [busAddr_toNat_eq_busNumber] at hw
  rw [exec, execWPpuData, hw]

/-- A store through the palette region. -/
theorem exec_wPpuData_of_palette (d : Byte) (s : State) (h : 0x3F00 ≤ busNumber s.regs.v) :
    exec (.wPpuData d) s =
      .next (stepVram (s.setPalette (paletteSet s.palette (palIndex (busAddr s.regs.v)) (d.setWidth 6)))) := by
  rw [exec, execWPpuData, ppuWrite_of_palette d s (by simpa using h)]

/-- A read of the nametable region answers the buffer and refills it. -/
theorem exec_rPpuData_of_nametable (s : State) (h1 : 0x2000 ≤ busNumber s.regs.v) (h2 : busNumber s.regs.v < 0x3F00) :
    exec .rPpuData s = .next (finishDataRead s.regs.ppuDataBuffer
      (Memory.read (queryMirroring s).nametable (nametableByte (queryMirroring s).mir.cached (busNumber s.regs.v)))
      (queryMirroring s)) := by
  have hr := ppuRead_of_nametable (a := busAddr s.regs.v) s (by simpa using h1) (by simpa using h2)
  rw [busAddr_toNat_eq_busNumber] at hr
  rw [exec, execRPpuData, busAddr_toNat_eq_busNumber, if_neg (by omega), readDataBuffered, fetchInto_of_ppuRead hr,
    outcomeOf]

/-- The address underneath the palette, `v − $1000`, lies in the nametable region (R136). -/
theorem busNumber_sub_of_palette {v : VramAddr} (h : 0x3F00 ≤ busNumber v) :
    busNumber (v - 0x1000#15) = busNumber v - 0x1000 := by
  unfold busNumber at *
  have := v.isLt
  rw [BitVec.toNat_sub]
  simp only [BitVec.toNat_ofNat]
  omega

theorem busNumber_lt (v : VramAddr) : busNumber v < 0x4000 := Nat.mod_lt _ (by decide)

/-- A read of the palette region answers the entry at once and fills the buffer from the nametable underneath. -/
theorem exec_rPpuData_of_palette (s : State) (h : 0x3F00 ≤ busNumber s.regs.v) :
    exec .rPpuData s = .next (finishDataRead
      (BitVec.ofNat 8 (paletteEntry s.palette (paletteIndex (busNumber s.regs.v))))
      (Memory.read (queryMirroring s).nametable
        (nametableByte (queryMirroring s).mir.cached (busNumber s.regs.v - 0x1000)))
      (queryMirroring s)) := by
  have hlt := busNumber_lt s.regs.v
  have hunder : (busAddr (s.regs.v - 0x1000#15)).toNat = busNumber s.regs.v - 0x1000 := by
    rw [busAddr_toNat_eq_busNumber, busNumber_sub_of_palette h]
  have hentry := ppuRead_of_palette (a := busAddr s.regs.v) s (by simpa using h)
  have hfill := ppuRead_of_nametable (a := busAddr (s.regs.v - 0x1000#15)) s (by omega) (by omega)
  rw [busAddr_toNat_eq_busNumber] at hentry
  rw [hunder] at hfill
  rw [exec, execRPpuData, busAddr_toNat_eq_busNumber, if_pos h, readDataPalette, hentry]
  simp only [fetchInto_of_ppuRead hfill, outcomeOf]

/-! ## The round trips -/

/-- `R.PPUDATA` with `v` at a palette address answers the entry of that address. -/
theorem rPpuData_at_palette (s : State) {v : VramAddr} (h : 0x3F00 ≤ busNumber v) :
    ∃ u, exec .rPpuData { s with regs := { s.regs with v := v } } = .next u ∧
      u.answer = .byte (BitVec.ofNat 8 (paletteEntry s.palette (paletteIndex (busNumber v)))) :=
  ⟨_, exec_rPpuData_of_palette { s with regs := { s.regs with v := v } } h, rfl⟩

/-- Settles O50: the store replaces the one entry of its index, and a read answers the entry of its own index. -/
theorem paletteAliasesShareStorage : Obligations.PaletteAliasesShareStorage := by
  unfold Obligations.PaletteAliasesShareStorage
  intro s t d v hs hv hw
  rw [exec_wPpuData_of_palette d s hs, Host.Outcome.next.injEq] at hw
  have hentry : paletteEntry t.palette (paletteIndex (busNumber v)) =
      if paletteIndex (busNumber v) = paletteIndex (busNumber s.regs.v) then d.toNat % 64
      else paletteEntry s.palette (paletteIndex (busNumber v)) := by
    rw [← hw, stepVram_palette, State.setPalette_palette, paletteEntry_paletteSet _ _ _ _ (paletteIndex_lt _),
      palIndex_toNat, busAddr_toNat_eq_busNumber, BitVec.toNat_setWidth]
  have hread := rPpuData_at_palette t hv
  rw [hentry] at hread
  constructor
  · intro hsame
    rwa [if_pos hsame] at hread
  · intro hother
    rwa [if_neg hother] at hread

/-- The buffered read pair (R136) under static mirroring: the second read answers the nametable byte of the first. -/
theorem rPpuData_pair_at_nametable (s : State) {v w : VramAddr} (hmir : s.mir.dynamic = false)
    (hv1 : 0x2000 ≤ busNumber v) (hv2 : busNumber v < 0x3F00) (hw1 : 0x2000 ≤ busNumber w)
    (hw2 : busNumber w < 0x3F00) :
    ∃ a b, exec .rPpuData { s with regs := { s.regs with v := v } } = .next a ∧
      exec .rPpuData { a with regs := { a.regs with v := w } } = .next b ∧
      b.answer = .byte (Memory.read s.nametable (nametableByte s.mir.cached (busNumber v))) := by
  have hfirst := exec_rPpuData_of_nametable { s with regs := { s.regs with v := v } } hv1 hv2
  rw [queryMirroring_of_static (by exact hmir)] at hfirst
  refine ⟨_, _, hfirst, exec_rPpuData_of_nametable _ (by exact hw1) (by exact hw2), ?_⟩
  rw [finishDataRead_answer]
  rfl

/-- Settles O52: the mode's table, and the store read back through the buffered pair at an address of the same byte. -/
theorem nametableMirroringAndRoundTrip : Obligations.NametableMirroringAndRoundTrip := by
  unfold Obligations.NametableMirroringAndRoundTrip
  refine ⟨pageOf_toNat, ?_⟩
  intro s t d v w hmir hwf hs1 hs2 hv1 hv2 hw2 hw1 hcell hstore
  rw [exec_wPpuData_of_nametable d s hs1 hs2, queryMirroring_of_static hmir, Host.Outcome.next.injEq] at hstore
  have hread : Memory.read t.nametable (nametableByte t.mir.cached (busNumber v)) = d := by
    rw [← hstore, stepVram_nametable, stepVram_mir, State.setNametable_nametable, State.setNametable_mir, hcell]
    exact Memory.read_write_same hwf
  have hstatic : t.mir.dynamic = false := by rw [← hstore]; exact hmir
  have hpair := rPpuData_pair_at_nametable t hstatic hv1 hv2 hw1 hw2
  rwa [hread] at hpair

end Sys2Proof.Machine

/-! ## The write pairs in the numbers of the spec (30_encoding.md R97, R98) -/

namespace Sys2Proof.Machine

/-- Two equal fields are equal numbers. -/
theorem toNat_field_congr {w w' n a b : Nat} {x : BitVec w} {y : BitVec w'}
    (h : x.extractLsb' a n = y.extractLsb' b n) : x.toNat / 2 ^ a % 2 ^ n = y.toNat / 2 ^ b % 2 ^ n := by
  rw [← field_toNat, ← field_toNat, h]

theorem tFromScrollX_toNat (t : VramAddr) (d : Byte) :
    (tFromScrollX t d).toNat % 32 = d.toNat / 8 ∧ (tFromScrollX t d).toNat / 32 = t.toNat / 32 := by
  have coarseX := toNat_field_congr (tFromScrollX_coarseX t d)
  have rest := toNat_field_congr (tFromScrollX_rest t d)
  omega

theorem tFromScrollY_toNat (t : VramAddr) (d : Byte) :
    (tFromScrollY t d).toNat / 32 % 32 = d.toNat / 8 ∧ (tFromScrollY t d).toNat / 4096 = d.toNat % 8 ∧
      (tFromScrollY t d).toNat % 32 = t.toNat % 32 ∧
      (tFromScrollY t d).toNat / 1024 % 4 = t.toNat / 1024 % 4 := by
  have coarseY := toNat_field_congr (tFromScrollY_coarseY t d)
  have fineY := toNat_field_congr (tFromScrollY_fineY t d)
  have coarseX := toNat_field_congr (tFromScrollY_coarseX t d)
  have nt := toNat_field_congr (tFromScrollY_nt t d)
  omega

theorem tFromAddrHigh_toNat (t : VramAddr) (d : Byte) :
    (tFromAddrHigh t d).toNat / 256 = d.toNat % 64 ∧ (tFromAddrHigh t d).toNat % 256 = t.toNat % 256 := by
  have high := toNat_field_congr (tFromAddrHigh_high t d)
  have low := toNat_field_congr (tFromAddrHigh_low t d)
  have top : (tFromAddrHigh t d).toNat / 2 ^ 14 % 2 ^ 1 = 0 := by
    rw [← field_toNat, tFromAddrHigh_top, BitVec.toNat_zero]
  omega

theorem tFromAddrLow_toNat (t : VramAddr) (d : Byte) :
    (tFromAddrLow t d).toNat = t.toNat / 256 * 256 + d.toNat := by
  have high := toNat_field_congr (tFromAddrLow_high t d)
  have low := toNat_field_congr (tFromAddrLow_low t d)
  omega

/-- The pixel offset of the first scroll write, by number. -/
theorem setWidth_three_eq_ofNat (d : Byte) : d.setWidth 3 = BitVec.ofNat 3 (d.toNat % 8) := by
  apply BitVec.eq_of_toNat_eq
  rw [BitVec.toNat_setWidth, BitVec.toNat_ofNat, Nat.mod_mod]

/-! ### The first and the second write of each pair (R126, R127) -/

section
variable {s : State} (d : Byte)

theorem exec_wPpuScroll_first (h : s.regs.addressLatch = false) :
    exec (.wPpuScroll d) s = .next (s.setRegs { s.regs with
      t := tFromScrollX s.regs.t d, fineX := d.setWidth 3, addressLatch := true }) := by
  rw [exec, execWPpuScroll, if_neg (by simp [h])]

theorem exec_wPpuScroll_second (h : s.regs.addressLatch = true) :
    exec (.wPpuScroll d) s = .next (s.setRegs { s.regs with
      t := tFromScrollY s.regs.t d, addressLatch := false }) := by
  rw [exec, execWPpuScroll, if_pos h]

theorem exec_wPpuAddr_first (h : s.regs.addressLatch = false) :
    exec (.wPpuAddr d) s = .next (s.setRegs { s.regs with
      t := tFromAddrHigh s.regs.t d, addressLatch := true }) := by
  rw [exec, execWPpuAddr, if_neg (by simp [h])]

theorem exec_wPpuAddr_second (h : s.regs.addressLatch = true) :
    exec (.wPpuAddr d) s = .next (s.setRegs { s.regs with
      t := tFromAddrLow s.regs.t d, v := tFromAddrLow s.regs.t d, addressLatch := false }) := by
  rw [exec, execWPpuAddr, if_pos h]

end

/-- Settles O10: by the toggle, `t` is the one that the first or the second write assembles. -/
theorem scrollWritePairAssemblesT : Obligations.ScrollWritePairAssemblesT := by
  unfold Obligations.ScrollWritePairAssemblesT
  intro s d
  constructor
  · intro hfirst
    obtain ⟨coarseX, rest⟩ := tFromScrollX_toNat s.regs.t d
    refine ⟨tFromScrollX s.regs.t d, coarseX, rest, ?_⟩
    rw [exec_wPpuScroll_first d hfirst, setWidth_three_eq_ofNat]
    rfl
  · intro hsecond
    obtain ⟨coarseY, fineY, coarseX, nt⟩ := tFromScrollY_toNat s.regs.t d
    exact ⟨tFromScrollY s.regs.t d, coarseY, fineY, coarseX, nt, exec_wPpuScroll_second d hsecond⟩

/-- Settles O11: by the toggle, `t` is the one that the first or the second write assembles, and the second is `v` too. -/
theorem addressWritePairAssemblesT : Obligations.AddressWritePairAssemblesT := by
  unfold Obligations.AddressWritePairAssemblesT
  intro s d
  constructor
  · intro hfirst
    obtain ⟨high, low⟩ := tFromAddrHigh_toNat s.regs.t d
    exact ⟨tFromAddrHigh s.regs.t d, high, low, exec_wPpuAddr_first d hfirst⟩
  · intro hsecond
    exact ⟨tFromAddrLow s.regs.t d, tFromAddrLow_toNat s.regs.t d, exec_wPpuAddr_second d hsecond⟩

end Sys2Proof.Machine

/-! ## The words of the bus rows (30_encoding.md R90, R91, R107) -/

namespace Sys2Proof.Machine

/-- A bus word is its row number above its data byte. -/
theorem busRow_toNat {k : Nat} (hk : k < 16) (d : Byte) :
    (BitVec.ofNat 16 (k * 256) ||| d.setWidth 16).toNat = k * 256 + d.toNat := by
  have hd := d.isLt
  have hor := Nat.two_pow_add_eq_or_of_lt (i := 8) hd k
  rw [BitVec.toNat_or, BitVec.toNat_ofNat, BitVec.toNat_setWidth, Nat.mod_eq_of_lt (by omega),
    Nat.mod_eq_of_lt (by omega), Nat.mul_comm]
  exact hor.symm

/-- Every word of kind 0 is a bus operation: its row chooses which one, its data byte is the operand. -/
theorem decode_busRow {k : Nat} (hk : k < 16) (d : Byte) :
    decode { word := BitVec.ofNat 16 (k * 256) ||| d.setWidth 16, payload := [] } = .ok (decodeBus k d) := by
  have hd := d.isLt
  have hnum := busRow_toNat hk d
  generalize BitVec.ofNat 16 (k * 256) ||| d.setWidth 16 = w at hnum
  have hkind : wordKind w = 0 := by unfold wordKind; omega
  have hrow : wordRwReg w = k := by unfold wordRwReg; omega
  have hdata : wordData w = d := by
    apply BitVec.eq_of_toNat_eq
    rw [wordData, BitVec.toNat_setWidth]
    omega
  simp [decode, decodeWord, hkind, hrow, hdata]

/-! ## Accesses to OAM through its address (40_register_access.md R124, R133) -/

/-- The fetches of a tick write `v` and `status` and no other register. -/
theorem tickFetch_regs {sl : Int} {c : Nat} {s q : State} (h : tickFetch sl c s = .ok q) :
    q.regs = { s.regs with v := q.regs.v, status := q.regs.status } := by
  obtain ⟨-, -, -, -, -, -, -, -, -, -, -, hregs⟩ := tickFetch_keeps h
  exact hregs

theorem tick_oamAddr {s t : State} (h : exec .tick s = .next t) : t.regs.oamAddr = s.regs.oamAddr := by
  obtain ⟨q, hq, rfl⟩ := execTick_cases h
  rw [tickTail_oamAddr, tickFetch_regs hq, tickHead_oamAddr]

/-- Settles O8: row 3 of the bus words stores the byte, and none of the three parts of a tick (head, fetches, tail)
writes `oam_addr`. -/
theorem oamAddressWrittenOnlyByTheCpu : Obligations.OamAddressWrittenOnlyByTheCpu := by
  unfold Obligations.OamAddressWrittenOnlyByTheCpu
  constructor
  · intro s d
    exact ⟨decode_busRow (k := 3) (by decide) d, rfl⟩
  · intro s t
    exact tick_oamAddr

theorem exec_rOamData (s : State) :
    exec .rOamData s = .next (s.setAnswer (.byte (Memory.read s.oam s.regs.oamAddr.toNat))) := rfl

/-- Settles O17: the state after the read has the same OAM and `oam_addr`, so the second read overwrites the answer with
itself. -/
theorem oamDataReadHasNoSideEffect : Obligations.OamDataReadHasNoSideEffect := by
  unfold Obligations.OamDataReadHasNoSideEffect
  intro s
  refine ⟨decode_busRow (k := 12) (by decide), exec_rOamData s, ?_⟩
  simp only [runOps, exec_rOamData, State.setAnswer_oam, State.setAnswer_regs, State.setAnswer_setAnswer]

/-! ## Reads of the write-only registers (40_register_access.md R129, R130, R132, R134, R135) -/

/-- Settles O14: each of the five reads is the zero read, and rows 8, 9, 11, 13 and 14 take no operand. -/
theorem writeOnlyRegistersReadZero : Obligations.WriteOnlyRegistersReadZero := by
  unfold Obligations.WriteOnlyRegistersReadZero
  constructor
  · intro i s hi
    simp only [List.mem_cons, List.not_mem_nil, or_false] at hi
    obtain rfl | rfl | rfl | rfl | rfl := hi <;> rfl
  · intro d
    exact ⟨decode_busRow (k := 8) (by decide) d, decode_busRow (k := 9) (by decide) d,
      decode_busRow (k := 11) (by decide) d, decode_busRow (k := 13) (by decide) d,
      decode_busRow (k := 14) (by decide) d⟩

/-! ## The step of `v` after a `$2007` access (40_register_access.md R137) -/

theorem SameButCalls.regs_eq {s t : State} (h : SameButCalls s t) : t.regs = s.regs := by
  obtain ⟨log, m, rfl⟩ := h
  rfl

/-- A bus write changes no register. -/
@[simp] theorem ppuWrite_regs (a : BusAddr) (b : Byte) (s : State) : (ppuWrite a b s).regs = s.regs := by
  obtain ⟨c, log, -, hw⟩ | ⟨-, -, q, rfl, hw⟩ | ⟨-, hw⟩ := ppuWrite_cases a b s
  · rw [hw]
  · rw [hw, State.setNametable_regs, (queryMirroring_same s).regs_eq]
  · rw [hw, State.setPalette_regs]

@[simp] theorem stepVram_v (s : State) : (stepVram s).regs.v = vramStep s.regs.ctrl s.regs.v := rfl

@[simp] theorem finishDataRead_v (r b : Byte) (s : State) :
    (finishDataRead r b s).regs.v = vramStep s.regs.ctrl s.regs.v := rfl

theorem outcomeOf_eq_next {r : Except Fault State} {t : State} : outcomeOf r = .next t ↔ r = .ok t := by
  cases r <;> simp [outcomeOf]

theorem readDataBuffered_cases {s t : State} (h : readDataBuffered s = .ok t) :
    ∃ r b q, SameButCalls s q ∧ t = finishDataRead r b q := by
  obtain ⟨b, q, hfill, rfl⟩ := fetchInto_cases h
  exact ⟨_, b, q, ppuRead_same hfill, rfl⟩

theorem readDataPalette_cases {s t : State} (h : readDataPalette s = .ok t) :
    ∃ r b q, SameButCalls s q ∧ t = finishDataRead r b q := by
  unfold readDataPalette at h
  split at h
  · cases h
  · rename_i r s1 hentry
    obtain ⟨b, q, hfill, rfl⟩ := fetchInto_cases h
    exact ⟨r, b, q, (ppuRead_same hentry).trans (ppuRead_same hfill), rfl⟩

/-- A `$2007` read that answers ends, in every region, with the read's last act on a state that only bus reads have
touched. -/
theorem exec_rPpuData_cases {s t : State} (h : exec .rPpuData s = .next t) :
    ∃ r b q, SameButCalls s q ∧ t = finishDataRead r b q := by
  rw [exec, execRPpuData, outcomeOf_eq_next] at h
  split at h
  · exact readDataPalette_cases h
  · exact readDataBuffered_cases h

/-- Settles O12: neither a bus write nor the bus reads change `ctrl` or `v` before the step, whose amount is `ctrl[2]`'s
and wraps in 15 bits. -/
theorem dataAccessStepsVramAddress : Obligations.DataAccessStepsVramAddress := by
  unfold Obligations.DataAccessStepsVramAddress
  intro s
  constructor
  · intro d
    refine ⟨stepVram (ppuWrite (busAddr s.regs.v) d s), rfl, ?_⟩
    rw [stepVram_v, ppuWrite_regs, vramStep_toNat]
  · intro t h
    obtain ⟨r, b, q, hcalls, rfl⟩ := exec_rPpuData_cases h
    rw [finishDataRead_v, hcalls.regs_eq, vramStep_toNat]

end Sys2Proof.Machine

/-! ## The increments of `v` in the numbers of the spec (42_background_pipeline.md R168, R169) -/

namespace Sys2Proof.Machine
open Sys2Proof.Spec

/-! ### The five fields of an address (10_state.md R15) -/

theorem coarseXField_toNat (v : VramAddr) : (v.extractLsb' 0 5).toNat = v.toNat % 32 := by
  rw [field_toNat, Nat.pow_zero, Nat.div_one]
  rfl

theorem coarseYField_toNat (v : VramAddr) : (v.extractLsb' 5 5).toNat = v.toNat / 32 % 32 := field_toNat v 5 5

theorem ntxField_toNat (v : VramAddr) : (v.extractLsb' 10 1).toNat = v.toNat / 1024 % 2 := field_toNat v 10 1

theorem ntyField_toNat (v : VramAddr) : (v.extractLsb' 11 1).toNat = v.toNat / 2048 % 2 := field_toNat v 11 1

/-- The three bits of fine-Y are all that lies above bit 11. -/
theorem fineYField_toNat (v : VramAddr) : (v.extractLsb' 12 3).toNat = v.toNat / 4096 := by
  have hv := v.isLt
  rw [field_toNat]
  omega

/-- An address is its five fields. -/
theorem toNat_eq_vOf_fields (v : VramAddr) :
    v.toNat = vOf (v.extractLsb' 12 3).toNat (v.extractLsb' 11 1).toNat (v.extractLsb' 10 1).toNat
      (v.extractLsb' 5 5).toNat (v.extractLsb' 0 5).toNat := by
  rw [coarseXField_toNat, coarseYField_toNat, ntxField_toNat, ntyField_toNat, fineYField_toNat, vOf]
  omega

theorem maskCoarseX_toNat (v : VramAddr) : (v &&& 0x1F#15).toNat = v.toNat % 32 := by
  rw [BitVec.toNat_and]
  exact Nat.and_two_pow_sub_one_eq_mod v.toNat 5

theorem clearFineY_toNat (v : VramAddr) : (v &&& 0x0FFF#15).toNat = v.toNat % 4096 := by
  rw [BitVec.toNat_and]
  exact Nat.and_two_pow_sub_one_eq_mod v.toNat 12

theorem fineY_toNat (v : VramAddr) : (fineY v).toNat = v.toNat / 4096 := by
  have hfield : fineY v = (v.extractLsb' 12 3).setWidth 15 := by
    unfold fineY
    ext i hi
    interval_cases i <;> simp
  rw [hfield, BitVec.toNat_setWidth_of_le (by decide), fineYField_toNat]

theorem coarseY_toNat (v : VramAddr) : (coarseY v).toNat = v.toNat / 32 % 32 := by
  have hfield : coarseY v = (v.extractLsb' 5 5).setWidth 15 := by
    unfold coarseY
    ext i hi
    interval_cases i <;> simp
  rw [hfield, BitVec.toNat_setWidth_of_le (by decide), coarseYField_toNat]

/-- Coarse-X cleared and the horizontal NT bit flipped. -/
theorem clearCoarseX_flipNtx_toNat (v : VramAddr) :
    ((v &&& 0x7FE0#15) ^^^ 0x0400#15).toNat =
      vOf (v.toNat / 4096) (v.toNat / 2048 % 2) (1 - v.toNat / 1024 % 2) (v.toNat / 32 % 32) 0 := by
  generalize hw : (v &&& 0x7FE0#15) ^^^ 0x0400#15 = w
  obtain ⟨coarseX, coarseY, ntx, nty, fineY⟩ : w.extractLsb' 0 5 = 0#5 ∧ w.extractLsb' 5 5 = v.extractLsb' 5 5 ∧
      w.extractLsb' 10 1 = ~~~ (v.extractLsb' 10 1) ∧ w.extractLsb' 11 1 = v.extractLsb' 11 1 ∧
      w.extractLsb' 12 3 = v.extractLsb' 12 3 := by
    subst hw
    refine ⟨?_, ?_, ?_, ?_, ?_⟩ <;> (ext i hi; interval_cases i <;> simp)
  rw [toNat_eq_vOf_fields w, coarseX, coarseY, ntx, nty, fineY, BitVec.toNat_not, coarseYField_toNat, ntxField_toNat,
    ntyField_toNat, fineYField_toNat, BitVec.toNat_zero]

/-- The vertical NT bit flipped and coarse-Y cleared. -/
theorem flipNty_clearCoarseY_toNat (v : VramAddr) :
    ((v ^^^ 0x0800#15) &&& 0x7C1F#15).toNat =
      vOf (v.toNat / 4096) (1 - v.toNat / 2048 % 2) (v.toNat / 1024 % 2) 0 (v.toNat % 32) := by
  generalize hw : (v ^^^ 0x0800#15) &&& 0x7C1F#15 = w
  obtain ⟨coarseX, coarseY, ntx, nty, fineY⟩ : w.extractLsb' 0 5 = v.extractLsb' 0 5 ∧ w.extractLsb' 5 5 = 0#5 ∧
      w.extractLsb' 10 1 = v.extractLsb' 10 1 ∧ w.extractLsb' 11 1 = ~~~ (v.extractLsb' 11 1) ∧
      w.extractLsb' 12 3 = v.extractLsb' 12 3 := by
    subst hw
    refine ⟨?_, ?_, ?_, ?_, ?_⟩ <;> (ext i hi; interval_cases i <;> simp)
  rw [toNat_eq_vOf_fields w, coarseX, coarseY, ntx, nty, fineY, BitVec.toNat_not, coarseXField_toNat, ntxField_toNat,
    ntyField_toNat, fineYField_toNat, BitVec.toNat_zero]

/-- Coarse-Y replaced. -/
theorem replaceCoarseY_toNat (v : VramAddr) {y : VramAddr} (hy : y.toNat < 32) :
    ((v &&& 0x7C1F#15) ||| (y <<< 5)).toNat =
      vOf (v.toNat / 4096) (v.toNat / 2048 % 2) (v.toNat / 1024 % 2) y.toNat (v.toNat % 32) := by
  obtain ⟨z, rfl⟩ : ∃ z : BitVec 5, y = z.setWidth 15 := ⟨y.setWidth 5, by bv_omega⟩
  generalize hw : (v &&& 0x7C1F#15) ||| (z.setWidth 15 <<< 5) = w
  obtain ⟨coarseX, coarseY, ntx, nty, fineY⟩ : w.extractLsb' 0 5 = v.extractLsb' 0 5 ∧ w.extractLsb' 5 5 = z ∧
      w.extractLsb' 10 1 = v.extractLsb' 10 1 ∧ w.extractLsb' 11 1 = v.extractLsb' 11 1 ∧
      w.extractLsb' 12 3 = v.extractLsb' 12 3 := by
    subst hw
    refine ⟨?_, ?_, ?_, ?_, ?_⟩ <;> (ext i hi; interval_cases i <;> simp)
  rw [toNat_eq_vOf_fields w, coarseX, coarseY, ntx, nty, fineY, coarseXField_toNat, ntxField_toNat, ntyField_toNat,
    fineYField_toNat, BitVec.toNat_setWidth_of_le (by decide)]

theorem clearCoarseY_toNat (v : VramAddr) :
    (v &&& 0x7C1F#15).toNat =
      vOf (v.toNat / 4096) (v.toNat / 2048 % 2) (v.toNat / 1024 % 2) 0 (v.toNat % 32) := by
  have h := replaceCoarseY_toNat v (y := 0#15) (by decide)
  rwa [BitVec.zero_shiftLeft, BitVec.or_zero] at h

theorem incrementX_toNat (v : VramAddr) : (incrementX v).toNat = scrollX v.toNat := by
  have hv := v.isLt
  have hlast : v &&& 0x1F#15 = 31#15 ↔ v.toNat % 32 = 31 := by
    rw [← maskCoarseX_toNat, BitVec.toNat_eq]
    rfl
  unfold incrementX scrollX
  by_cases h : v.toNat % 32 = 31
  · rw [if_pos h, if_pos (hlast.mpr h), clearCoarseX_flipNtx_toNat]
  · rw [if_neg h, if_neg (hlast.not.mpr h), BitVec.toNat_add, BitVec.toNat_ofNat, vOf]
    omega

/-- A `v` whose fine-Y is not the last gets the next one and keeps its other fields. -/
theorem incrementY_toNat_of_fineY {v : VramAddr} (h : v.toNat / 4096 < 7) : (incrementY v).toNat = v.toNat + 4096 := by
  have hfine : fineY v < 7#15 := by
    rw [BitVec.lt_def, fineY_toNat]
    exact h
  rw [incrementY, if_pos hfine, BitVec.toNat_add, BitVec.toNat_ofNat]
  omega

/-- A `v` whose fine-Y is the last has it cleared and goes to the next row of tiles. -/
theorem incrementY_toNat_of_lastFineY {v : VramAddr} (h : ¬ v.toNat / 4096 < 7) :
    (incrementY v).toNat = scrollY v.toNat := by
  have hfine : ¬ fineY v < 7#15 := by
    rw [BitVec.lt_def, fineY_toNat]
    exact h
  simp only [incrementY, scrollY, if_neg hfine, if_neg h]
  have hv0 := clearFineY_toNat v
  generalize v &&& 0x0FFF#15 = v0 at hv0 ⊢
  have hrow : (coarseY v0).toNat = v.toNat / 32 % 32 := by
    rw [coarseY_toNat]
    omega
  have hrow_eq (k : Nat) (hk : k < 32) : coarseY v0 = BitVec.ofNat 15 k ↔ v.toNat / 32 % 32 = k := by
    rw [BitVec.toNat_eq, BitVec.toNat_ofNat, hrow]
    omega
  simp only [hrow_eq 29 (by decide), hrow_eq 31 (by decide)]
  split_ifs with h29 h31
  · rw [flipNty_clearCoarseY_toNat, vOf, vOf]
    omega
  · rw [clearCoarseY_toNat, vOf, vOf]
    omega
  · have hnext : (coarseY v0 + 1#15).toNat = v.toNat / 32 % 32 + 1 := by
      rw [BitVec.toNat_add, hrow, BitVec.toNat_ofNat]
      omega
    rw [replaceCoarseY_toNat v0 (by omega), hnext, vOf, vOf]
    omega

theorem incrementY_toNat (v : VramAddr) : (incrementY v).toNat = scrollY v.toNat := by
  by_cases h : v.toNat / 4096 < 7
  · rw [incrementY_toNat_of_fineY h, scrollY, if_pos h, vOf]
    omega
  · exact incrementY_toNat_of_lastFineY h

/-! ### What the parts of a tick do to `v` (42_background_pipeline.md R160, R168 to R173) -/

theorem scrollIfRendering_v (f : VramAddr → VramAddr) (s : State) :
    (scrollIfRendering f s).regs.v = if s.regs.renderingEnabled = true then f s.regs.v else s.regs.v := by
  unfold scrollIfRendering
  split <;> rfl

@[simp] theorem shiftIfRendering_regs (s : State) : (shiftIfRendering s).regs = s.regs := by
  unfold shiftIfRendering
  split <;> rfl

/-- A fetch whose byte goes into no register changes none. -/
theorem fetchInto_regs {a : BusAddr} {k : Byte → State → State} {s t : State} (h : fetchInto a k s = .ok t)
    (hk : ∀ b q, (k b q).regs = q.regs) : t.regs = s.regs := by
  obtain ⟨b, q, hq, rfl⟩ := fetchInto_cases h
  rw [hk, (ppuRead_same hq).regs_eq]

/-- Only phase 7 touches `v`: it makes the X increment. -/
theorem bgPhase_v {c : Nat} {s t : State} (h : bgPhase c s = .ok t) :
    t.regs.v = if (c - 1) % 8 = 7 then (incrementScrollX s).regs.v else s.regs.v := by
  have fetched {phase : Nat} (hphase : (c - 1) % 8 = phase) (hfetch : phase ≠ 7) (hregs : t.regs = s.regs) :
      t.regs.v = if (c - 1) % 8 = 7 then (incrementScrollX s).regs.v else s.regs.v := by
    rw [if_neg (by omega), hregs]
  unfold bgPhase at h
  split at h
  next hphase =>
    exact fetched hphase (by decide) (fetchInto_regs (s := s.setBg (loadBgShifters s.bg)) h fun _ _ => rfl)
  next hphase => exact fetched hphase (by decide) (fetchInto_regs h fun _ _ => rfl)
  next hphase => exact fetched hphase (by decide) (fetchInto_regs h fun _ _ => rfl)
  next hphase => exact fetched hphase (by decide) (fetchInto_regs h fun _ _ => rfl)
  next hphase => cases h; rw [if_pos hphase]
  next hphase => cases h; rw [if_neg hphase]

theorem bgActive_iff (c : Nat) : bgActive c = true ↔ InWindow c := by simp [bgActive]

/-- The window's work touches `v` at the phase-7 dots, 8, 16, …, 256, 328 and 336. -/
theorem bgWindow_v {c : Nat} {s t : State} (h : bgWindow c s = .ok t) :
    t.regs.v = if InWindow c ∧ c % 8 = 0 then (incrementScrollX s).regs.v else s.regs.v := by
  unfold bgWindow at h
  split at h
  case isTrue hactive =>
    have hwindow := (bgActive_iff c).mp hactive
    have hphase : (c - 1) % 8 = 7 ↔ InWindow c ∧ c % 8 = 0 := by omega
    simp only [bgPhase_v h, hphase, incrementScrollX, scrollIfRendering_v, shiftIfRendering_regs]
  case isFalse hidle =>
    cases h
    rw [if_neg fun hdot => hidle ((bgActive_iff c).mpr hdot.1)]

/-- Away from the transfer dots the scroll work is the Y increment of dot 256. -/
theorem bgScroll_of_no_transfer {sl : Int} {c : Nat} (s : State) (hx : c ≠ 257)
    (hy : ¬ (sl = -1 ∧ 280 ≤ c ∧ c ≤ 304)) :
    bgScroll sl c s = if c = 256 then incrementScrollY s else s := by
  simp only [bgScroll, if_neg hx, if_neg hy]

/-- On a fetch line step (c) does the background's dot, and the sprites' part of it keeps `v`. -/
theorem tickFetch_v_of_fetchLine {sl : Int} {c : Nat} {s t : State} (h : tickFetch sl c s = .ok t)
    (hline : -1 ≤ sl ∧ sl ≤ 239) : ∃ b, bgDot sl c s = .ok b ∧ t.regs.v = b.regs.v := by
  rw [tickFetch, if_pos hline] at h
  split at h
  next => cases h
  next b hb =>
    refine ⟨b, hb, ?_⟩
    split at h
    · obtain ⟨_, _, _, _, _, _, rfl⟩ := spriteDot_frame h
      rfl
    · cases h
      rfl

/-- On a fetch line `v` after a tick is what the window's work and then the scroll work leave. -/
theorem tick_v_of_fetchLine {s t : State} (h : exec .tick s = .next t) (hline : OnFetchLine s) :
    ∃ q, bgWindow s.seq.cycle (tickHead s) = .ok q ∧ t.regs.v = (bgScroll s.seq.scanline s.seq.cycle q).regs.v := by
  obtain ⟨r, hfetch, rfl⟩ := execTick_cases h
  obtain ⟨b, hb, hr⟩ := tickFetch_v_of_fetchLine hfetch hline
  obtain ⟨q, hq, hdummy⟩ := bgDot_cases hb
  exact ⟨q, hq, by rw [tickTail_v, hr, (bgDummy_frame hdummy).regs_eq]⟩

/-- Off the fetch lines a tick keeps `v`. -/
theorem tick_v_of_not_fetchLine {s t : State} (h : exec .tick s = .next t) (hline : ¬ OnFetchLine s) :
    t.regs.v = s.regs.v := by
  obtain ⟨q, hq, rfl⟩ := execTick_cases h
  rw [tickFetch_off hline] at hq
  cases hq
  rw [tickTail_v, tickHead_v]

/-- On a fetch line, away from the transfer dots, the X increment comes first and the Y increment second, both gated. -/
theorem tick_v_of_no_transfer {s t : State} (h : exec .tick s = .next t) (hline : OnFetchLine s)
    (hx : s.seq.cycle ≠ 257) (hy : ¬ (s.seq.scanline = -1 ∧ 280 ≤ s.seq.cycle ∧ s.seq.cycle ≤ 304)) :
    t.regs.v =
      if s.regs.renderingEnabled = true then
        if s.seq.cycle = 256 then incrementY (incrementX s.regs.v)
        else if InWindow s.seq.cycle ∧ s.seq.cycle % 8 = 0 then incrementX s.regs.v
        else s.regs.v
      else s.regs.v := by
  obtain ⟨q, hq, hv⟩ := tick_v_of_fetchLine h hline
  have hon : q.regs.renderingEnabled = s.regs.renderingEnabled := by
    obtain ⟨_, _, _, _, rfl⟩ := bgWindow_frame hq
    exact tickHead_renderingEnabled s
  rw [hv, bgScroll_of_no_transfer q hx hy]
  have hwindow := bgWindow_v hq
  rw [incrementScrollX, scrollIfRendering_v, tickHead_v, tickHead_renderingEnabled] at hwindow
  by_cases hdot : s.seq.cycle = 256
  · rw [if_pos (by omega)] at hwindow
    rw [if_pos hdot, if_pos hdot, incrementScrollY, scrollIfRendering_v, hon, hwindow]
    split <;> rfl
  · rw [if_neg hdot, if_neg hdot, hwindow]
    split_ifs <;> rfl

/-- Settles O34: the two increments on bit vectors are the two on fields, and off the fetch lines or with rendering
disabled neither happens. -/
theorem tickIncrementsScroll : Obligations.TickIncrementsScroll := by
  unfold Obligations.TickIncrementsScroll
  intro s t h hx hy
  constructor
  · intro hidle
    by_cases hline : OnFetchLine s
    · rw [tick_v_of_no_transfer h hline hx hy, if_neg fun hon => hidle ⟨hline, hon⟩]
    · exact tick_v_of_not_fetchLine h hline
  · intro hline hon
    rw [tick_v_of_no_transfer h hline hx hy, if_pos hon, apply_ite BitVec.toNat, apply_ite BitVec.toNat,
      incrementY_toNat, incrementX_toNat]

end Sys2Proof.Machine

/-! ## The priority multiplexer, one lemma per row of its table (44_compositor.md R203) -/

namespace Sys2Proof.Machine

section
variable {bg fg : Pixel} {front : Bool}

theorem mux_of_both_transparent (hbg : bg.value = 0#2) (hfg : fg.value = 0#2) : mux bg fg front = Pixel.clear := by
  rw [mux, if_pos hbg, if_pos hfg]

theorem mux_of_only_sprite_opaque (hbg : bg.value = 0#2) (hfg : fg.value ≠ 0#2) : mux bg fg front = fg := by
  rw [mux, if_pos hbg, if_neg hfg]

theorem mux_of_only_background_opaque (hbg : bg.value ≠ 0#2) (hfg : fg.value = 0#2) : mux bg fg front = bg := by
  rw [mux, if_neg hbg, if_pos hfg]

theorem mux_of_both_opaque (hbg : bg.value ≠ 0#2) (hfg : fg.value ≠ 0#2) :
    mux bg fg front = if front then fg else bg := by
  rw [mux, if_neg hbg, if_neg hfg]

end

/-- Settles O45: the rows of the table are the branches of `mux`; where both pixels are opaque the priority decides. -/
theorem priorityMultiplexerTable : Obligations.PriorityMultiplexerTable := by
  unfold Obligations.PriorityMultiplexerTable
  intro bg fg front
  refine ⟨mux_of_both_transparent, mux_of_only_sprite_opaque, mux_of_only_background_opaque, ?_, ?_⟩
  · intro hbg hfg hfront
    rw [mux_of_both_opaque hbg hfg, if_pos hfront]
  · intro hbg hfg hback
    rw [mux_of_both_opaque hbg hfg, if_neg (Bool.eq_false_iff.mp hback)]

end Sys2Proof.Machine

/-! ## The sequencer's transitions (45_frame_driver.md R222 to R224) -/

namespace Sys2Proof.Machine
open Sys2Proof.Spec

/-! ### `Advance` (R224), one lemma per transition -/

section
variable {q : Sequencer}

theorem advance_of_dot (hc : q.cycle < 340) : advance q = { q with cycle := q.cycle + 1 } := by
  rw [advance, if_neg (by omega)]

theorem advance_of_line_end (hc : q.cycle = 340) (hl : q.scanline < 260) :
    advance q = { q with cycle := 0, scanline := q.scanline + 1 } := by
  rw [advance, if_pos (by omega), if_neg (by omega)]

theorem advance_of_frame_end (hc : q.cycle = 340) (hl : q.scanline = 260) :
    advance q = { q with cycle := 0, scanline := -1, frameComplete := true, oddFrame := !q.oddFrame } := by
  rw [advance, if_pos (by omega), if_pos (by omega)]

@[simp] theorem advance_oddSkipLatch (q : Sequencer) : (advance q).oddSkipLatch = q.oddSkipLatch := by
  unfold advance
  split_ifs <;> rfl

theorem advance_inRange (h : q.InRange) : (advance q).InRange := by
  obtain ⟨hlow, hhigh, hdot⟩ := h
  rcases Nat.lt_or_eq_of_le hdot with hc | hc
  · rw [advance_of_dot hc]
    exact ⟨hlow, hhigh, hc⟩
  · rcases lt_or_eq_of_le hhigh with hl | hl
    · rw [advance_of_line_end hc hl]
      exact ⟨Int.le_add_one hlow, hl, Nat.zero_le 340⟩
    · rw [advance_of_frame_end hc hl]
      simp [Sequencer.InRange]

/-! ### The skip (R223) and the next dot -/

theorem skipsDot_iff :
    skipsDot q = true ↔ (q.scanline = -1 ∧ q.cycle = 339) ∧ q.oddFrame = true ∧ q.oddSkipLatch = true := by
  simp [skipsDot, and_assoc]

theorem nextDot_of_skip (h : skipsDot q = true) : nextDot q = { q with scanline := 0, cycle := 0 } := by
  rw [nextDot, if_pos h]

theorem nextDot_of_no_skip (h : ¬ skipsDot q = true) : nextDot q = advance q := by
  rw [nextDot, if_neg h]

@[simp] theorem nextDot_oddSkipLatch (q : Sequencer) : (nextDot q).oddSkipLatch = q.oddSkipLatch := by
  by_cases h : skipsDot q = true
  · rw [nextDot_of_skip h]
  · rw [nextDot_of_no_skip h, advance_oddSkipLatch]

theorem nextDot_inRange (h : q.InRange) : (nextDot q).InRange := by
  by_cases hskip : skipsDot q = true
  · rw [nextDot_of_skip hskip]
    simp [Sequencer.InRange]
  · rw [nextDot_of_no_skip hskip]
    exact advance_inRange h

end

/-! ### The sequencer after a tick -/

/-- At (−1, 338) the tick writes the latch (R222) and goes to the next dot. -/
theorem tick_seq_at_latch_dot {s t : State} (h : exec .tick s = .next t) (hdot : At s (-1) 338) :
    t.seq = { advance s.seq with oddSkipLatch := s.regs.renderingEnabled } := by
  have hc := hdot.2
  rw [tick_seq h, if_pos hdot, nextDot_of_no_skip, advance_of_dot, advance_of_dot]
  · omega
  · dsimp only
    omega
  · rw [skipsDot_iff]
    dsimp only
    omega

theorem tick_seq_off_latch_dot {s t : State} (h : exec .tick s = .next t) (hdot : ¬ At s (-1) 338) :
    t.seq = nextDot s.seq := by
  rw [tick_seq h, if_neg hdot]

theorem tick_seq_inRange {s t : State} (h : exec .tick s = .next t) (hs : s.seq.InRange) : t.seq.InRange := by
  rw [tick_seq h]
  split
  · exact nextDot_inRange hs
  · exact nextDot_inRange hs

theorem tick_seq_of_skip {s t : State} (h : exec .tick s = .next t) (hskip : skipsDot s.seq = true) :
    t.seq = { s.seq with scanline := 0, cycle := 0 } := by
  have hc := (skipsDot_iff.mp hskip).1.2
  rw [tick_seq_off_latch_dot h (by omega), nextDot_of_skip hskip]

/-- Without the skip, and the latch apart, the tick advances: the latch it may have just written is not read. -/
theorem tick_advances_of_no_skip {s t : State} (h : exec .tick s = .next t) (hskip : ¬ skipsDot s.seq = true) :
    At t (advance s.seq).scanline (advance s.seq).cycle ∧ t.seq.frameComplete = (advance s.seq).frameComplete ∧
      t.seq.oddFrame = (advance s.seq).oddFrame := by
  unfold At
  by_cases hdot : At s (-1) 338
  · rw [tick_seq_at_latch_dot h hdot]
    exact ⟨⟨rfl, rfl⟩, rfl, rfl⟩
  · rw [tick_seq_off_latch_dot h hdot, nextDot_of_no_skip hskip]
    exact ⟨⟨rfl, rfl⟩, rfl, rfl⟩

/-- Settles O30: a tick skips or advances, and off (−1, 338) neither touches the latch. -/
theorem tickAdvancesTheSequencer : Obligations.TickAdvancesTheSequencer := by
  unfold Obligations.TickAdvancesTheSequencer
  intro s t hs h
  rw [← skipsDot_iff]
  refine ⟨tick_seq_inRange h hs, tick_seq_of_skip h, fun hskip => ?_, fun hdot => ?_, fun hdot => ?_⟩
  · have hadvance := tick_advances_of_no_skip h hskip
    refine ⟨fun hc => ?_, fun hc hl => ?_, fun hc hl => ?_⟩
    · rwa [advance_of_dot hc] at hadvance
    · rwa [advance_of_line_end hc hl] at hadvance
    · rwa [advance_of_frame_end hc hl] at hadvance
  · rw [tick_seq_at_latch_dot h hdot]
  · rw [tick_seq_off_latch_dot h hdot, nextDot_oddSkipLatch]

end Sys2Proof.Machine

/-! ## The decoder and the operation table (30_encoding.md R90, R107 to R109) -/

namespace Sys2Proof.Machine
open Sys2Proof.Spec

theorem busWord_eq_busRow {k : Nat} (hk : k < 16) (d : Byte) :
    busWord k d = BitVec.ofNat 16 (k * 256) ||| d.setWidth 16 := by
  have hd := d.isLt
  apply BitVec.eq_of_toNat_eq
  rw [busRow_toNat hk, busWord, BitVec.toNat_ofNat]
  omega

theorem decode_busWord {k : Nat} (hk : k < 16) (d : Byte) :
    decode { word := busWord k d, payload := [] } = .ok (decodeBus k d) := by
  rw [busWord_eq_busRow hk, decode_busRow hk]

/-- A word of kind 4 whose reserved bits are 0, with a full payload, is a `DMA`. -/
theorem decode_dmaWord (page : Byte) {bytes : List Byte} (h : bytes.length = 256) :
    decode { word := BitVec.ofNat 16 (0x4000 + page.toNat), payload := bytes } = .ok (.dma page bytes) := by
  have hp := page.isLt
  have hnum : (BitVec.ofNat 16 (0x4000 + page.toNat)).toNat = 0x4000 + page.toNat := by
    rw [BitVec.toNat_ofNat]
    omega
  generalize BitVec.ofNat 16 (0x4000 + page.toNat) = w at hnum
  have hkind : wordKind w = 4 := by unfold wordKind; omega
  have hrow : wordRwReg w = 0 := by unfold wordRwReg; omega
  have hdata : wordData w = page := by
    apply BitVec.eq_of_toNat_eq
    rw [wordData, BitVec.toNat_setWidth]
    omega
  simp [decode, decodeDma, hkind, hrow, hdata, h, dmaLength]

/-- Settles O1: a bus operation is its row's bus word, an event its one word, a `DMA` its page and payload. -/
theorem encodedOperationsDecodeToThemselves : Obligations.EncodedOperationsDecodeToThemselves := by
  unfold Obligations.EncodedOperationsDecodeToThemselves
  intro i hi
  cases i with
  | wPpuCtrl d => exact decode_busWord (k := 0) (by decide) d
  | wPpuMask d => exact decode_busWord (k := 1) (by decide) d
  | wPpuStatus d => exact decode_busWord (k := 2) (by decide) d
  | wOamAddr d => exact decode_busWord (k := 3) (by decide) d
  | wOamData d => exact decode_busWord (k := 4) (by decide) d
  | wPpuScroll d => exact decode_busWord (k := 5) (by decide) d
  | wPpuAddr d => exact decode_busWord (k := 6) (by decide) d
  | wPpuData d => exact decode_busWord (k := 7) (by decide) d
  | rPpuCtrl => exact decode_busWord (k := 8) (by decide) 0
  | rPpuMask => exact decode_busWord (k := 9) (by decide) 0
  | rPpuStatus => exact decode_busWord (k := 10) (by decide) 0
  | rOamAddr => exact decode_busWord (k := 11) (by decide) 0
  | rOamData => exact decode_busWord (k := 12) (by decide) 0
  | rPpuScroll => exact decode_busWord (k := 13) (by decide) 0
  | rPpuAddr => exact decode_busWord (k := 14) (by decide) 0
  | rPpuData => exact decode_busWord (k := 15) (by decide) 0
  | tick => rfl
  | reset => rfl
  | nmiAck => rfl
  | dma page bytes => exact decode_dmaWord page (by simpa [Instr.wellFormed, dmaLength] using hi)
  | frameAck => rfl

/-! ### The table as its three kinds of rows -/

/-- Row `k` of the bus operations. -/
def busTableRow (k : Nat) : OpRow := ⟨0xFF00#16, BitVec.ofNat 16 (k * 256), 0, fun d _ => decodeBus k d⟩

/-- The row of an event, which is one word. -/
def eventTableRow (w : Word16) (i : Instr) : OpRow := ⟨0xFFFF#16, w, 0, fun _ _ => i⟩

/-- The row of `DMA`. -/
def dmaTableRow : OpRow := ⟨0xFF00#16, 0x4000#16, 256, fun d p => .dma d p⟩

theorem opTable_eq : opTable = (List.range 16).map busTableRow ++
    [eventTableRow 0x1000#16 .tick, eventTableRow 0x2000#16 .reset, eventTableRow 0x3000#16 .nmiAck, dmaTableRow,
     eventTableRow 0x5000#16 .frameAck] := rfl

/-- The row `row` matches the word `w` with payload `p`. -/
def RowMatches (row : OpRow) (w : Word16) (p : List Byte) : Prop :=
  w &&& row.mask = row.pat ∧ p.length = row.payload

/-- The high byte selects a row with mask `$FF00`. -/
theorem and_highByte_eq_iff {k : Nat} (hk : k < 256) (w : Word16) :
    w &&& 0xFF00#16 = BitVec.ofNat 16 (k * 256) ↔ w.toNat / 256 = k := by
  have hw := w.isLt
  have hmask : (w &&& 0xFF00#16) = (w >>> 8) <<< 8 := by
    ext i hi
    interval_cases i <;> simp
  rw [hmask, BitVec.toNat_eq, BitVec.toNat_shiftLeft, BitVec.toNat_ushiftRight, BitVec.toNat_ofNat,
    Nat.shiftRight_eq_div_pow, Nat.shiftLeft_eq]
  omega

theorem matches_busTableRow {k : Nat} (hk : k < 16) {w : Word16} {p : List Byte} :
    RowMatches (busTableRow k) w p ↔ w = busWord k (w.setWidth 8) ∧ p = [] := by
  have hw := w.isLt
  have hword : w = busWord k (w.setWidth 8) ↔ w.toNat / 256 = k := by
    rw [BitVec.toNat_eq, busWord, BitVec.toNat_ofNat, BitVec.toNat_setWidth]
    omega
  rw [RowMatches, busTableRow, and_highByte_eq_iff (by omega), hword, List.length_eq_zero_iff]

theorem matches_eventTableRow {w x : Word16} {i : Instr} {p : List Byte} :
    RowMatches (eventTableRow x i) w p ↔ w = x ∧ p = [] := by
  have hmask : w &&& 0xFFFF#16 = w := BitVec.and_allOnes
  rw [RowMatches, eventTableRow, hmask, List.length_eq_zero_iff]

theorem matches_dmaTableRow {w : Word16} {p : List Byte} :
    RowMatches dmaTableRow w p ↔ w = BitVec.ofNat 16 (0x4000 + (w.setWidth 8).toNat) ∧ p.length = 256 := by
  have hw := w.isLt
  have hword : w = BitVec.ofNat 16 (0x4000 + (w.setWidth 8).toNat) ↔ w.toNat / 256 = 0x40 := by
    rw [BitVec.toNat_eq, BitVec.toNat_ofNat, BitVec.toNat_setWidth]
    omega
  rw [RowMatches, dmaTableRow, hword]
  exact and_congr_left' (and_highByte_eq_iff (k := 0x40) (by decide) w)

/-- A word that matches a row decodes to the row's operation. -/
theorem decode_of_matches {row : OpRow} {w : Word16} {p : List Byte} (hrow : row ∈ opTable) (h : RowMatches row w p) :
    decode { word := w, payload := p } = .ok (row.build (w.setWidth 8) p) := by
  rw [opTable_eq, List.mem_append, List.mem_map] at hrow
  obtain ⟨k, hk, rfl⟩ | hrow := hrow
  · have hk := List.mem_range.mp hk
    obtain ⟨hw, rfl⟩ := (matches_busTableRow hk).mp h
    have hdecode := decode_busWord hk (w.setWidth 8)
    rw [← hw] at hdecode
    exact hdecode
  · simp only [List.mem_cons, List.not_mem_nil, or_false] at hrow
    obtain rfl | rfl | rfl | rfl | rfl := hrow
    · obtain ⟨rfl, rfl⟩ := matches_eventTableRow.mp h
      rfl
    · obtain ⟨rfl, rfl⟩ := matches_eventTableRow.mp h
      rfl
    · obtain ⟨rfl, rfl⟩ := matches_eventTableRow.mp h
      rfl
    · obtain ⟨hw, hp⟩ := matches_dmaTableRow.mp h
      have hdecode := decode_dmaWord (w.setWidth 8) hp
      rw [← hw] at hdecode
      exact hdecode
    · obtain ⟨rfl, rfl⟩ := matches_eventTableRow.mp h
      rfl

/-! ### What the decoder accepts -/

theorem decodeEvent_eq_ok {w : Word16} {i j : Instr} (h : decodeEvent w i = .ok j) : w.toNat % 4096 = 0 ∧ i = j := by
  unfold decodeEvent at h
  split at h
  next hlow => exact ⟨hlow, by cases h; rfl⟩
  next => cases h

/-- An event word is determined by its kind. -/
theorem eq_of_wordKind {w : Word16} {k : Nat} (hk : wordKind w = k) (hlow : w.toNat % 4096 = 0) :
    w = BitVec.ofNat 16 (k * 4096) := by
  have hw := w.isLt
  apply BitVec.eq_of_toNat_eq
  unfold wordKind at hk
  rw [BitVec.toNat_ofNat]
  omega

/-- A word that is not a `DMA` and decodes matches the row of a bus operation or of an event. -/
theorem matches_of_decodeWord {w : Word16} {i : Instr} (h : decodeWord w = .ok i) :
    ∃ row ∈ opTable, RowMatches row w [] := by
  have event {k : Nat} {i j : Instr} (hk : wordKind w = k) (hrow : eventTableRow (BitVec.ofNat 16 (k * 4096)) i ∈ opTable)
      (hev : decodeEvent w i = .ok j) : ∃ row ∈ opTable, RowMatches row w [] :=
    ⟨_, hrow, matches_eventTableRow.mpr ⟨eq_of_wordKind hk (decodeEvent_eq_ok hev).1, rfl⟩⟩
  rw [opTable_eq] at event ⊢
  unfold decodeWord at h
  split at h
  next hk =>
    have hreg : w.toNat / 256 < 16 := by unfold wordKind at hk; omega
    refine ⟨busTableRow (w.toNat / 256), List.mem_append_left _ (List.mem_map_of_mem (List.mem_range.mpr hreg)), ?_, rfl⟩
    exact (and_highByte_eq_iff (by omega) w).mpr rfl
  next hk => exact event hk (i := .tick) (by simp) h
  next hk => exact event hk (i := .reset) (by simp) h
  next hk => exact event hk (i := .nmiAck) (by simp) h
  next hk => exact event hk (i := .frameAck) (by simp) h
  next => cases h

/-- Whatever decodes matches a row of the table. -/
theorem matches_of_decode {w : Word16} {p : List Byte} {i : Instr} (h : decode { word := w, payload := p } = .ok i) :
    ∃ row ∈ opTable, RowMatches row w p := by
  unfold decode at h
  split at h
  next hkind =>
    unfold decodeDma at h
    split at h
    next => cases h
    next hreg =>
      split at h
      next => cases h
      next hlen =>
        have hhigh : w.toNat / 256 = 0x40 := by
          unfold wordKind at hkind
          unfold wordRwReg at hreg
          dsimp only at hkind hreg
          omega
        exact ⟨dmaTableRow, by simp [opTable_eq], (and_highByte_eq_iff (by decide) w).mpr hhigh, not_not.mp hlen⟩
  next =>
    split at h
    next => cases h
    next j hj =>
      split at h
      next hp =>
        dsimp only at hp
        rw [hp]
        exact matches_of_decodeWord hj
      next => cases h

/-- Settles O2: a matching row decodes to its operation, and whatever decodes matches a row. -/
theorem decoderFollowsTheOperationTable : Obligations.DecoderFollowsTheOperationTable := by
  unfold Obligations.DecoderFollowsTheOperationTable
  intro w p i
  constructor
  · intro h
    obtain ⟨row, hrow, hmatch⟩ := matches_of_decode h
    have hbuild := decode_of_matches hrow hmatch
    rw [h, Except.ok.injEq] at hbuild
    exact ⟨row, hrow, hmatch.1, hmatch.2, hbuild⟩
  · rintro ⟨row, hrow, hword, hlen, rfl⟩
    exact decode_of_matches hrow ⟨hword, hlen⟩

/-- Settles O3: each word by evaluation. -/
theorem writtenOutWordsDecode : Obligations.WrittenOutWordsDecode := by
  unfold Obligations.WrittenOutWordsDecode
  exact ⟨rfl, rfl, rfl, rfl, rfl, rfl, rfl, rfl⟩

theorem decodeBus_wellFormed (k : Nat) (d : Byte) : (decodeBus k d).wellFormed = true := by
  unfold decodeBus
  split <;> rfl

/-- What decodes is well-formed: only a `DMA` has a condition, the length its row asks for. -/
theorem wellFormed_of_decode {st : Stimulus} {i : Instr} (h : decode st = .ok i) : i.wellFormed = true := by
  obtain ⟨row, hrow, hmatch⟩ := matches_of_decode h
  have hbuild := decode_of_matches hrow hmatch
  rw [h, Except.ok.injEq] at hbuild
  rw [hbuild]
  rw [opTable_eq, List.mem_append, List.mem_map] at hrow
  obtain ⟨k, -, rfl⟩ | hrow := hrow
  · exact decodeBus_wellFormed k _
  · simp only [List.mem_cons, List.not_mem_nil, or_false] at hrow
    obtain rfl | rfl | rfl | rfl | rfl := hrow
    · rfl
    · rfl
    · rfl
    · exact decide_eq_true hmatch.2
    · rfl

/-! ### The step -/

theorem step_of_no_stimulus {s : State} (h : s.stimuli = []) : step s = .next s := by
  simp [step, fetchStimulus, h]

theorem step_of_decode {s : State} {st : Stimulus} {rest : List Stimulus} {i : Instr} (hs : s.stimuli = st :: rest)
    (h : decode st = .ok i) : step s = exec i { s with stimuli := rest } := by
  simp [step, fetchStimulus, hs, h]

theorem step_of_decode_error {s : State} {st : Stimulus} {rest : List Stimulus} {e : DecodeError}
    (hs : s.stimuli = st :: rest) (h : decode st = .error e) : step s = .refused (.undefinedStimulus e) := by
  simp [step, fetchStimulus, hs, h]

/-- A step that answers keeps the state, with nothing pending, or performs one operation on it without its first
stimulus. -/
theorem step_cases {s t : State} (h : step s = .next t) :
    t = s ∨ ∃ i rest, exec i { s with stimuli := rest } = .next t := by
  cases hs : s.stimuli with
  | nil =>
    rw [step_of_no_stimulus hs, Host.Outcome.next.injEq] at h
    exact .inl h.symm
  | cons st rest =>
    cases hd : decode st with
    | ok i =>
      rw [step_of_decode hs hd] at h
      exact .inr ⟨i, rest, h⟩
    | error e =>
      rw [step_of_decode_error hs hd] at h
      cases h

/-- Settles O4: the three cases of a step. -/
theorem stepPerformsTheDecodedOperation : Obligations.StepPerformsTheDecodedOperation := by
  unfold Obligations.StepPerformsTheDecodedOperation
  intro s
  refine ⟨step_of_no_stimulus, fun st rest hs => ⟨fun i h => ?_, fun e h => ?_⟩⟩
  · exact ⟨wellFormed_of_decode h, step_of_decode hs h⟩
  · exact step_of_decode_error hs h

end Sys2Proof.Machine

/-! ## The register writes and reads in the numbers of the spec (40_register_access.md) -/

namespace Sys2Proof.Machine
open Sys2Proof.Spec

/-! ### `W.PPUCTRL` and the NMI edge (R121, R237) -/

theorem tFromCtrl_toNat (t : VramAddr) (d : Byte) :
    (tFromCtrl t d).toNat / 4096 = t.toNat / 4096 ∧ (tFromCtrl t d).toNat / 1024 % 4 = d.toNat % 4 ∧
      (tFromCtrl t d).toNat % 1024 = t.toNat % 1024 := by
  have fineY := toNat_field_congr (tFromCtrl_fineY t d)
  have nt := toNat_field_congr (tFromCtrl_nt t d)
  have low := toNat_field_congr (tFromCtrl_low t d)
  omega

/-- `NmiChange` field by field: the counters are armed exactly on a rising edge. -/
theorem nmiChange_eq (n : NmiState) : nmiChange n = { n with
    previous := nmiLine n
    delay := if nmiLine n && !n.previous then 14 else n.delay
    hold := if nmiLine n && !n.previous then 2 else n.hold } := by
  unfold nmiChange
  split
  · rfl
  · rfl

/-- Settles O5: `t` by its fields, the NMI state by the edge. -/
theorem controlWriteStoresAndDrivesNmi : Obligations.ControlWriteStoresAndDrivesNmi := by
  unfold Obligations.ControlWriteStoresAndDrivesNmi
  intro s d
  obtain ⟨fineY, nt, low⟩ := tFromCtrl_toNat s.regs.t d
  refine ⟨tFromCtrl s.regs.t d, fineY, nt, low, ?_⟩
  rw [exec, execWPpuCtrl, nmiChange_eq]
  rfl

/-! ### `W.PPUMASK`, `W.PPUSTATUS`, `W.OAMDATA` (R122, R123, R125) -/

theorem renderingOf_eq : ∀ d : Byte, renderingOf d = (bit d 3 || bit d 4) := by decide

/-- Settles O6: the mask `$18` has bits 3 and 4. -/
theorem maskWriteSetsRenderingEnabled : Obligations.MaskWriteSetsRenderingEnabled := by
  unfold Obligations.MaskWriteSetsRenderingEnabled
  intro s d
  rw [exec, execWPpuMask, renderingOf_eq]
  rfl

/-- Settles O7: row 2 of the bus words, whose operation keeps the state. -/
theorem statusWriteChangesNothing : Obligations.StatusWriteChangesNothing := by
  unfold Obligations.StatusWriteChangesNothing
  intro s d
  exact ⟨decode_busRow (k := 2) (by decide) d, rfl⟩

theorem oamAddr_succ (a : Byte) : a + 1#8 = BitVec.ofNat 8 ((a.toNat + 1) % 256) := by
  apply BitVec.eq_of_toNat_eq
  rw [BitVec.toNat_add, BitVec.toNat_ofNat, BitVec.toNat_ofNat]
  omega

theorem exec_wOamData (d : Byte) (s : State) :
    exec (.wOamData d) s = .next ((s.setOam (Memory.write s.oam s.regs.oamAddr.toNat d)).setRegs
      { s.regs with oamAddr := s.regs.oamAddr + 1#8 }) := rfl

/-- Settles O9: one store to OAM, read back by the memory laws. -/
theorem oamDataWriteStoresAndAdvances : Obligations.OamDataWriteStoresAndAdvances := by
  unfold Obligations.OamDataWriteStoresAndAdvances
  intro s d hwf
  refine ⟨Memory.write s.oam s.regs.oamAddr.toNat d, ?_, Memory.read_write_same hwf, fun a ha =>
    Memory.read_write_other d s.oam ha⟩
  rw [exec_wOamData, oamAddr_succ]
  rfl

/-! ### `W.PPUDATA` (R128) -/

theorem vramStep_eq_steppedV (s : State) : vramStep s.regs.ctrl s.regs.v = steppedV s := by
  apply BitVec.eq_of_toNat_eq
  rw [vramStep_toNat, steppedV, BitVec.toNat_ofNat]

/-- The step of `v` on a state with the registers of `s`. -/
theorem stepVram_of_regs_eq {s q : State} (h : q.regs = s.regs) :
    stepVram q = q.setRegs { s.regs with v := steppedV s } := by
  rw [stepVram, h, vramStep_eq_steppedV]

theorem busAddr_setWidth (v : VramAddr) : (busAddr v).setWidth 13 = BitVec.ofNat 13 (busNumber v) := by
  apply BitVec.eq_of_toNat_eq
  rw [BitVec.toNat_setWidth, busAddr_toNat_eq_busNumber, BitVec.toNat_ofNat]

theorem ppuWrite_of_pattern {a : BusAddr} (b : Byte) (s : State) (h : a.toNat < 0x2000) :
    ppuWrite a b s = cartPpuWrite (a.setWidth 13) b s := by
  rw [ppuWrite, if_pos h]

theorem exec_wPpuData_of_pattern (d : Byte) (s : State) (h : busNumber s.regs.v < 0x2000) :
    exec (.wPpuData d) s = .next (stepVram (cartPpuWrite (BitVec.ofNat 13 (busNumber s.regs.v)) d s)) := by
  rw [exec, execWPpuData, ppuWrite_of_pattern d s (by simpa using h), busAddr_setWidth]

theorem cartPpuWrite_of_testT0 {s : State} {board : T0Board} (h : s.cart = .testT0 board) (a : PatternAddr) (b : Byte) :
    cartPpuWrite a b s =
      s.setCart (.testT0 { board with chr := Memory.write board.chr a.toNat b }) (.ppuWrite a b) := by
  rw [cartPpuWrite, h]

theorem cartPpuWrite_of_mapper {s : State} {id : Nat} (h : s.cart = .mapper id) (a : PatternAddr) (b : Byte) :
    cartPpuWrite a b s = s.setCart (.mapper id) (.ppuWrite a b) := by
  rw [cartPpuWrite, h]

@[simp] theorem queryMirroring_regs (s : State) : (queryMirroring s).regs = s.regs := (queryMirroring_same s).regs_eq

@[simp] theorem queryMirroring_nametable (s : State) : (queryMirroring s).nametable = s.nametable := by
  obtain ⟨_, _, h⟩ := queryMirroring_same s
  rw [h]

/-- Settles O13: by region, one store of the space that the address reaches, then the step of `v`. -/
theorem dataWriteReachesTheAddressedSpace : Obligations.DataWriteReachesTheAddressedSpace := by
  unfold Obligations.DataWriteReachesTheAddressedSpace
  intro s d
  refine ⟨fun h board hc hwf => ?_, fun h id hc => ?_, fun h1 h2 hwf => ?_, fun h => ?_⟩
  · have hnum : (BitVec.ofNat 13 (busNumber s.regs.v)).toNat = busNumber s.regs.v := by
      rw [BitVec.toNat_ofNat]
      omega
    refine ⟨Memory.write board.chr (busNumber s.regs.v) d, Memory.read_write_same hwf, fun a ha =>
      Memory.read_write_other d board.chr ha, ?_⟩
    rw [exec_wPpuData_of_pattern d s h, cartPpuWrite_of_testT0 hc, hnum, stepVram_of_regs_eq (State.setCart_regs s _ _)]
    rfl
  · rw [exec_wPpuData_of_pattern d s h, cartPpuWrite_of_mapper hc, stepVram_of_regs_eq (State.setCart_regs s _ _), ← hc]
    rfl
  · refine ⟨_, Memory.read_write_same hwf, fun a ha => Memory.read_write_other d s.nametable ha, ?_⟩
    rw [exec_wPpuData_of_nametable d s h1 h2, queryMirroring_nametable,
      stepVram_of_regs_eq (s := s) (by simp)]
    rfl
  · refine ⟨paletteSet s.palette (palIndex (busAddr s.regs.v)) (d.setWidth 6), fun i hi => ?_, ?_⟩
    · rw [paletteEntry_paletteSet _ _ _ _ hi, palIndex_toNat, busAddr_toNat_eq_busNumber, BitVec.toNat_setWidth]
    · rw [exec_wPpuData_of_palette d s h, stepVram_of_regs_eq (State.setPalette_regs s _)]
      rfl

/-- The model's mirroring query is the spec's (R67). -/
theorem queryMirroring_eq_queried (s : State) : queryMirroring s = queried s := by
  unfold queryMirroring queried cartMirroringAnswer
  by_cases hd : s.mir.dynamic = true
  · rw [if_pos hd, if_pos hd]
    cases hc : s.cart with
    | testT0 board => cases hm : board.mode <;> simp only [hm] <;> rw [cartMirroringCall, hc] <;> rfl
    | mapper id =>
      cases hm : Config.mapperMirroring id s.cartLog <;> simp only [hm] <;> rw [cartMirroringCall, hc] <;> rfl
  · rw [if_neg hd, if_neg hd]

end Sys2Proof.Machine

/-! ## Reads, DMA, the acknowledges and RESET in the numbers of the spec (40_register_access.md, 41_host_ops.md,
70_reset_and_hazards.md) -/

namespace Sys2Proof.Machine
open Sys2Proof.Spec

/-- Settles O51: the store keeps what the query leaves, and the query is the spec's. -/
theorem mirroringQueriedUnderDynamicMirroring : Obligations.MirroringQueriedUnderDynamicMirroring := by
  unfold Obligations.MirroringQueriedUnderDynamicMirroring
  intro s d h1 h2
  refine ⟨_, exec_wPpuData_of_nametable d s h1 h2, ?_⟩
  have hmir {q : State} {m : Memory} : (stepVram (q.setNametable m)).mir = q.mir ∧
      (stepVram (q.setNametable m)).cartLog = q.cartLog := ⟨rfl, rfl⟩
  rw [hmir.1, hmir.2, queryMirroring_eq_queried, queried]
  by_cases hd : s.mir.dynamic = true
  · rw [if_pos hd]
    exact ⟨rfl, fun h => absurd (hd.symm.trans h) (by decide), fun _ => ⟨rfl, rfl⟩⟩
  · rw [if_neg hd]
    exact ⟨rfl, fun _ => ⟨rfl, rfl⟩, fun h => absurd h hd⟩

/-! ### `R.PPUSTATUS` (R131) -/

theorem statusByte_toNat (r : Regs) :
    (statusByte r).toNat = r.status.toNat / 32 * 32 + r.ppuDataBuffer.toNat % 32 := by
  have low : (statusByte r).extractLsb' 0 5 = r.ppuDataBuffer.extractLsb' 0 5 := by
    unfold statusByte
    ext i hi
    interval_cases i <;> simp
  have high : (statusByte r).extractLsb' 5 3 = r.status.extractLsb' 5 3 := by
    unfold statusByte
    ext i hi
    interval_cases i <;> simp
  have low := toNat_field_congr low
  have high := toNat_field_congr high
  omega

theorem clearVblank_toNat : ∀ x : Byte, (setBit x vblankBit false).toNat = x.toNat % 128 := by decide

theorem setVblankBit_toNat : ∀ x : Byte, (setBit x vblankBit true).toNat = x.toNat % 128 + 128 := by decide

/-- With vblank off the line is low, so nothing is armed. -/
theorem nmiChange_of_not_occurred (n : NmiState) :
    nmiChange { n with occurred := false } = { n with occurred := false, previous := false } := by
  rw [nmiChange_eq]
  simp [nmiLine]

theorem exec_rPpuStatus (s : State) : exec .rPpuStatus s = .next { s with
    regs := { s.regs with status := setBit s.regs.status vblankBit false, addressLatch := false }
    nmi := { statusRace s.seq s.nmi with occurred := false, previous := false }
    answer := .byte (statusByte s.regs) } := by
  rw [← nmiChange_of_not_occurred]
  rfl

section
variable {s : State}

theorem statusRace_at_one (h : At s 241 1) :
    statusRace s.seq s.nmi = { s.nmi with suppressVblank := true, suppressNmi := true } := by
  rw [statusRace, if_pos h]

theorem statusRace_at_two_or_three (h : At s 241 2 ∨ At s 241 3) :
    statusRace s.seq s.nmi = { s.nmi with suppressNmi := true, flag := false, delay := 0, hold := 0 } := by
  rw [statusRace, if_neg (by omega), if_pos (by omega)]
  rfl

theorem statusRace_elsewhere (h1 : ¬ At s 241 1) (h : ¬ (At s 241 2 ∨ At s 241 3)) :
    statusRace s.seq s.nmi = s.nmi := by
  rw [statusRace, if_neg h1, if_neg (by omega)]

end

/-- Settles O15: the byte and `status` by number, and the NMI state in the three cases of the race. -/
theorem statusReadAnswersAndClears : Obligations.StatusReadAnswersAndClears := by
  unfold Obligations.StatusReadAnswersAndClears
  intro s
  refine ⟨_, _, _, exec_rPpuStatus s, statusByte_toNat s.regs, clearVblank_toNat _, rfl, rfl, ?_⟩
  by_cases h1 : At s 241 1
  · have h23 : ¬ (At s 241 2 ∨ At s 241 3) := by omega
    simpa [statusRace_at_one h1, h23] using And.intro (Or.inr h1) (Or.inr h1)
  · by_cases h23 : At s 241 2 ∨ At s 241 3
    · simp [statusRace_at_two_or_three h23, h1, h23]
    · simp [statusRace_elsewhere h1 h23, h1, h23]

/-! ### `R.PPUDATA` (R136) -/

/-- The end of a `$2007` read on a state with the registers of `s`. -/
theorem finishDataRead_of_regs_eq {s q : State} (h : q.regs = s.regs) (r b : Byte) :
    finishDataRead r b q =
      (q.setRegs { s.regs with v := steppedV s, ppuDataBuffer := b }).setAnswer (.byte r) := by
  rw [← vramStep_eq_steppedV, ← h]
  rfl

theorem ppuRead_of_pattern {a : BusAddr} (s : State) (h : a.toNat < 0x2000) :
    ppuRead a s = cartPpuRead (a.setWidth 13) s := by
  rw [ppuRead, if_pos h]

theorem cartPpuRead_of_answer {a : PatternAddr} {s : State} {b : Byte} (h : cartReadAnswer s a = some b) :
    cartPpuRead a s = .ok (b, s.setCart s.cart (.ppuRead a)) := by
  rw [cartPpuRead, h]

theorem cartPpuRead_of_failure {a : PatternAddr} {s : State} (h : cartReadAnswer s a = none) :
    cartPpuRead a s = .error .mapperFault := by
  rw [cartPpuRead, h, raiseMapperFault]

theorem exec_rPpuData_of_pattern (s : State) (h : busNumber s.regs.v < 0x2000) :
    exec .rPpuData s = outcomeOf (fetchInto (busAddr s.regs.v) (finishDataRead s.regs.ppuDataBuffer) s) := by
  rw [exec, execRPpuData, busAddr_toNat_eq_busNumber, if_neg (by omega), readDataBuffered]

theorem exec_rPpuData_of_pattern_answer {s : State} {b : Byte} (h : busNumber s.regs.v < 0x2000)
    (hb : cartReadAnswer s (BitVec.ofNat 13 (busNumber s.regs.v)) = some b) :
    exec .rPpuData s = .next (finishDataRead s.regs.ppuDataBuffer b
      (s.setCart s.cart (.ppuRead (BitVec.ofNat 13 (busNumber s.regs.v))))) := by
  have hread := ppuRead_of_pattern (a := busAddr s.regs.v) s (by simpa using h)
  rw [busAddr_setWidth, cartPpuRead_of_answer hb] at hread
  rw [exec_rPpuData_of_pattern s h, fetchInto_of_ppuRead hread, outcomeOf]

theorem exec_rPpuData_of_pattern_failure {s : State} (h : busNumber s.regs.v < 0x2000)
    (hb : cartReadAnswer s (BitVec.ofNat 13 (busNumber s.regs.v)) = none) :
    exec .rPpuData s = .fault .mapperFault := by
  have hread := ppuRead_of_pattern (a := busAddr s.regs.v) s (by simpa using h)
  rw [busAddr_setWidth, cartPpuRead_of_failure hb] at hread
  rw [exec_rPpuData_of_pattern s h, fetchInto, hread, outcomeOf]

/-- Settles O18: by region, the end of the read on the state that its bus reads leave. -/
theorem bufferedDataRead : Obligations.BufferedDataRead := by
  unfold Obligations.BufferedDataRead
  intro s
  refine ⟨fun h => ?_, fun h1 h2 => ?_, fun h b hb => ?_⟩
  · rw [exec_rPpuData_of_palette s h, finishDataRead_of_regs_eq (queryMirroring_regs s), queryMirroring_nametable]
    rfl
  · rw [exec_rPpuData_of_nametable s h1 h2, finishDataRead_of_regs_eq (queryMirroring_regs s),
      queryMirroring_nametable]
    rfl
  · rw [exec_rPpuData_of_pattern_answer h hb, finishDataRead_of_regs_eq (State.setCart_regs s _ _)]
    rfl

/-- `R.PPUDATA` faults exactly on a failed pattern read. -/
theorem exec_rPpuData_fault_iff (s : State) : exec .rPpuData s = .fault .mapperFault ↔
    busNumber s.regs.v < 0x2000 ∧ cartReadAnswer s (BitVec.ofNat 13 (busNumber s.regs.v)) = none := by
  by_cases h : busNumber s.regs.v < 0x2000
  · cases hb : cartReadAnswer s (BitVec.ofNat 13 (busNumber s.regs.v)) with
    | none => simp [exec_rPpuData_of_pattern_failure h hb, h]
    | some b => simp [exec_rPpuData_of_pattern_answer h hb]
  · by_cases h' : busNumber s.regs.v < 0x3F00
    · simp [exec_rPpuData_of_nametable s (by omega) h', h]
    · simp [exec_rPpuData_of_palette s (by omega), h]

/-! ### The only fault (60_exceptions.md R235) -/

theorem cartReadAnswer_isSome {s : State} (h : s.cart.NeverFails) (a : PatternAddr) : cartReadAnswer s a ≠ none := by
  obtain ⟨b, hb⟩ := cartPpuRead_total (a := a) h
  rw [(cartPpuRead_cases hb).1]
  exact Option.some_ne_none b

theorem execTick_of_not_fetchLine {s : State} (h : ¬ OnFetchLine s) :
    exec .tick s = .next (tickTail s.seq.scanline s.seq.cycle (tickHead s)) :=
  execTick_of_fetch (tickFetch_off h)

/-- A tick answers with a cartridge that never fails, and off the fetch lines. -/
theorem execTick_answers {s : State} (h : s.cart.NeverFails ∨ ¬ OnFetchLine s) : ∃ t, exec .tick s = .next t := by
  rcases h with h | h
  · exact execTick_total h
  · exact ⟨_, execTick_of_not_fetchLine h⟩

/-- Only `R.PPUDATA` and `TICK` can fault. -/
theorem exec_ne_fault {i : Instr} {s : State} {f : Fault} (hr : i ≠ .rPpuData) (ht : i ≠ .tick) :
    exec i s ≠ .fault f := by
  cases i
  case rPpuData => exact absurd rfl hr
  case tick => exact absurd rfl ht
  case wPpuScroll d => rw [exec, execWPpuScroll]; split <;> nofun
  case wPpuAddr d => rw [exec, execWPpuAddr]; split <;> nofun
  case dma page bytes => rw [exec, execDma]; split <;> nofun
  all_goals nofun

/-- Settles O19: `R.PPUDATA` by region, `TICK` by its completion, and no other operation has a fault to give. -/
theorem mapperFaultOnlyFromPatternReads : Obligations.MapperFaultOnlyFromPatternReads := by
  unfold Obligations.MapperFaultOnlyFromPatternReads
  refine ⟨exec_rPpuData_fault_iff, fun i s f h hf => ?_⟩
  obtain rfl : f = .mapperFault := by cases f; rfl
  by_cases hr : i = .rPpuData
  · subst hr
    have hn : s.cart.NeverFails := by simpa using h
    exact cartReadAnswer_isSome hn _ ((exec_rPpuData_fault_iff s).mp hf).2
  · by_cases ht : i = .tick
    · subst ht
      obtain ⟨t, ht⟩ := execTick_answers (s := s) (by simpa using h)
      rw [ht] at hf
      cases hf
    · exact exec_ne_fault hr ht hf

/-! ### DMA (41_host_ops.md R150) -/

theorem exec_dma (page : Byte) {bytes : List Byte} (s : State) (h : bytes.length = 256) :
    exec (.dma page bytes) s = .next (s.setOam (oamBurst s.oam s.regs.oamAddr bytes)) := by
  exact if_pos h

theorem exec_dma_of_other_length (page : Byte) {bytes : List Byte} (s : State) (h : bytes.length ≠ 256) :
    exec (.dma page bytes) s = .refused .dmaPayloadLength := by
  exact if_neg h

/-- An address that no byte of the burst goes to. -/
theorem read_oamBurst_other {oam : Memory} {a : Byte} {bs : List Byte} {x : Nat}
    (h : ∀ k < bs.length, x ≠ (a.toNat + k) % 256) : Memory.read (oamBurst oam a bs) x = Memory.read oam x := by
  induction bs generalizing oam a with
  | nil => rfl
  | cons b bs ih =>
    have hx : x ≠ a.toNat := by
      have := h 0 (by simp)
      have := a.isLt
      omega
    rw [oamBurst, ih, Memory.read_write_other b oam hx]
    intro k hk
    have := h (k + 1) (by simpa using hk)
    rw [oamAddr_succ, BitVec.toNat_ofNat]
    omega

/-- Byte `k` of a burst of at most 256 bytes; the ones after it go elsewhere. -/
theorem read_oamBurst {oam : Memory} {a : Byte} {bs : List Byte} (hwf : Memory.wf oamSize oam = true)
    (hlen : bs.length ≤ 256) {k : Nat} (hk : k < bs.length) :
    Memory.read (oamBurst oam a bs) ((a.toNat + k) % 256) = bs[k] := by
  induction bs generalizing oam a k with
  | nil => cases hk
  | cons b bs ih =>
    have ha := a.isLt
    have hlen' : bs.length < 256 := by simpa using hlen
    rw [oamBurst]
    cases k with
    | zero =>
      have hself : (a.toNat + 0) % 256 = a.toNat := by omega
      rw [hself, read_oamBurst_other, Memory.read_write_same hwf]
      · rfl
      · intro k hk
        rw [oamAddr_succ, BitVec.toNat_ofNat]
        omega
    | succ k =>
      have hnext : (a.toNat + (k + 1)) % 256 = ((a + 1#8).toNat + k) % 256 := by
        rw [oamAddr_succ, BitVec.toNat_ofNat]
        omega
      rw [hnext]
      exact ih (Memory.wf_write hwf a.isLt) (by omega) (by simpa using hk)

/-- Settles O20: the burst puts byte `k` at its address, and 256 addresses are distinct modulo 256. -/
theorem dmaFillsOamFromOamAddress : Obligations.DmaFillsOamFromOamAddress := by
  unfold Obligations.DmaFillsOamFromOamAddress
  intro s page bytes
  refine ⟨fun hlen hwf => ?_, exec_dma_of_other_length page s⟩
  exact ⟨_, exec_dma page s hlen, fun k hk => read_oamBurst hwf hlen.le hk⟩

/-- Successive `W.OAMDATA`s make the burst and advance the address by their number. -/
theorem runOps_wOamData (bytes : List Byte) (s : State) :
    runOps (bytes.map Instr.wOamData) s = .next ((s.setOam (oamBurst s.oam s.regs.oamAddr bytes)).setRegs
      { s.regs with oamAddr := s.regs.oamAddr + BitVec.ofNat 8 bytes.length }) := by
  induction bytes generalizing s with
  | nil =>
    have haddr : s.regs.oamAddr + BitVec.ofNat 8 0 = s.regs.oamAddr := BitVec.add_zero _
    rw [List.map_nil, runOps, List.length_nil, haddr]
    rfl
  | cons b bytes ih =>
    have haddr : s.regs.oamAddr + 1#8 + BitVec.ofNat 8 bytes.length =
        s.regs.oamAddr + BitVec.ofNat 8 (bytes.length + 1) := by
      rw [BitVec.add_assoc, ← BitVec.ofNat_add, Nat.add_comm]
    rw [List.map_cons, runOps, exec_wOamData]
    dsimp only
    rw [ih, List.length_cons, ← haddr]
    rfl

/-- Settles O21: 256 advances bring the address back. -/
theorem dmaEqualsOamDataWrites : Obligations.DmaEqualsOamDataWrites := by
  unfold Obligations.DmaEqualsOamDataWrites
  intro s page bytes hlen
  have hwrap : s.regs.oamAddr + BitVec.ofNat 8 256 = s.regs.oamAddr := BitVec.add_zero _
  rw [runOps_wOamData, exec_dma page s hlen, hlen, hwrap]
  rfl

/-! ### The acknowledges (R151, R152) -/

/-- Settles O22: the flag is answered before it is cleared. -/
theorem nmiAcknowledgeReturnsOnce : Obligations.NmiAcknowledgeReturnsOnce := by
  unfold Obligations.NmiAcknowledgeReturnsOnce
  intro s
  exact ⟨_, rfl, rfl, rfl⟩

theorem nextDot_frameComplete {q : Sequencer} (h : q.frameComplete = true) : (nextDot q).frameComplete = true := by
  unfold nextDot advance
  split_ifs
  · exact h
  · rfl
  · exact h
  · exact h

/-- Settles O23: a tick sets `frame_complete` or leaves it. -/
theorem frameAcknowledgeClearsOneFlag : Obligations.FrameAcknowledgeClearsOneFlag := by
  unfold Obligations.FrameAcknowledgeClearsOneFlag
  refine ⟨fun s => rfl, fun s t h hset => ?_⟩
  rw [tick_seq h]
  apply nextDot_frameComplete
  split
  · exact hset
  · exact hset

/-! ### RESET (R260) -/

/-- What RESET changes, group by group. -/
theorem resetState_eq (s : State) : resetState s = { s with
    regs := Regs.zero, bg := BgPipe.zero, spr := SpriteLine.zero, eval := SpriteEval.zero, nmi := NmiState.zero
    palette := seedPalette s.params.powerUpPalette, seq := Sequencer.start, mir := mirrorFromQuery s
    cartLog := .mirroring :: s.cartLog } := by
  have hmir : mirrorFromQuery (((((((s.setRegs Regs.zero).setBg BgPipe.zero).setSpr SpriteLine.zero).setEval
      SpriteEval.zero).setNmi NmiState.zero).setPalette (seedPalette s.params.powerUpPalette)).setSeq
      Sequencer.start) = mirrorFromQuery s := rfl
  rw [resetState, hmir]
  rfl

theorem exec_reset (s : State) : exec .reset s = .next (resetState s) := rfl

theorem slotByte_zero (k : Nat) : slotByte Slot.zero k = 0 := by
  unfold slotByte
  split <;> rfl

/-- Settles O24: the zeroed groups by evaluation, the palette entry by entry, the mirroring state by the answer. -/
theorem resetZeroesRegistersAndSeedsPalette : Obligations.ResetZeroesRegistersAndSeedsPalette := by
  unfold Obligations.ResetZeroesRegistersAndSeedsPalette
  intro s
  refine ⟨_, exec_reset s, ?_⟩
  rw [resetState_eq]
  refine ⟨rfl, rfl, ⟨rfl, rfl, rfl⟩, fun i k => ?_, ⟨rfl, rfl, rfl, rfl, rfl, rfl, rfl⟩, rfl, rfl, fun i => ?_,
    fun m hm => ?_, fun hm => ?_, rfl, rfl, rfl, rfl, rfl, rfl, rfl, rfl⟩
  · simp [SpriteLine.zero, SpriteEval.zero, slotByte_zero]
  · simp [seedPalette, BitVec.toNat_setWidth]
  · simp [mirrorFromQuery, hm]
  · simp [mirrorFromQuery, hm]

/-- Settles O57: at reset every register, count and memory is at its least value. -/
theorem invariantHoldsAtReset : Obligations.InvariantHoldsAtReset where
  position := by simp [State.reset, Sequencer.start, Sequencer.InRange]
  copies := ⟨rfl, rfl, rfl, rfl⟩
  statusLow := rfl
  evalRange := by simp [State.reset, SpriteEval.zero, SpriteEval.InRange]
  spriteCount := Nat.zero_le 8
  nmiRange := by simp [State.reset, NmiState.zero, NmiState.InRange]
  memories := ⟨rfl, rfl, rfl, rfl⟩

end Sys2Proof.Machine

/-! ## The NMI over one tick (45_frame_driver.md R216, R217, R219; 60_exceptions.md R239) -/

namespace Sys2Proof.Machine
open Sys2Proof.Spec

/-- Step (a) in the words of the spec. -/
theorem nmiCounterStep_eq_nmiStepped (n : NmiState) : nmiCounterStep n = nmiStepped n := by
  unfold nmiCounterStep nmiStepped nmiLine
  by_cases hd : n.delay = 0
  · obtain ⟨_, _, _, _, _, _, _, _⟩ := n
    dsimp only at hd
    subst hd
    simp
  · by_cases hh : n.hold = 0
    · by_cases h1 : n.delay = 1
      · simp [hh, h1]
      · simp [hd, hh, h1, Nat.pos_of_ne_zero]
    · by_cases hline : n.output = true ∧ n.occurred = true
      · simp [hd, hh, hline, Nat.pos_of_ne_zero]
      · simp [hd, hh, hline, Nat.pos_of_ne_zero]

/-- Away from (−1, 1) the head of a tick is step (a). -/
theorem tickHead_of_not_preRender {s : State} (h : ¬ At s (-1) 1) : tickHead s = s.setNmi (nmiStepped s.nmi) := by
  rw [← nmiCounterStep_eq_nmiStepped]
  exact if_neg h

/-- The sprite line after step (b) at (−1, 1). -/
def preRenderLine (s : State) : SpriteLine := if s.params.prerenderSpriteClear = true then clearSpriteLine s.spr else s.spr

/-- At (−1, 1) the head of a tick is step (a), then the clear. -/
theorem tickHead_of_preRender {s : State} (h : At s (-1) 1) : tickHead s = { s with
    regs := { s.regs with
      status := setBit (setBit (setBit s.regs.status hitBit false) overflowBit false) vblankBit false }
    nmi := { nmiStepped s.nmi with occurred := false, previous := false, suppressNmi := false }
    spr := preRenderLine s } := by
  have hclear : tickHead s = preRenderClear (s.setNmi (nmiStepped s.nmi)) := by
    rw [← nmiCounterStep_eq_nmiStepped]
    exact if_pos h
  rw [hclear]
  unfold preRenderClear preRenderLine
  dsimp only [setVblank]
  rw [State.setNmi_nmi, nmiChange_of_not_occurred]
  by_cases hp : s.params.prerenderSpriteClear = true
  · rw [if_pos hp]
    exact if_pos hp
  · rw [if_neg hp]
    exact if_neg hp

/-! ### The steps of the tail outside their dots -/

section
variable {sl : Int} {c : Nat} (s : State)

theorem tickVblank_off (h : ¬ (sl = 241 ∧ c = 1)) : tickVblank sl c s = s := if_neg h

theorem tickCompose_off (h : ¬ (0 ≤ sl ∧ sl ≤ 239 ∧ 1 ≤ c ∧ c ≤ 256)) : tickCompose sl c s = s := if_neg h

theorem tickClock_off (h : ¬ (c = 260 ∧ 0 ≤ sl ∧ sl ≤ 239)) : tickClock sl c s = s := if_neg fun hc => h hc.2

theorem tickLatch_off (h : ¬ (sl = -1 ∧ c = 338)) : tickLatch sl c s = s := if_neg h

end

/-- A tick at a dot of no line with the composer, the clock, the latch or vblank only moves on. -/
theorem tickTail_of_quiet {sl : Int} {c : Nat} (s : State) (hv : ¬ (sl = 241 ∧ c = 1))
    (hl : ¬ (0 ≤ sl ∧ sl ≤ 239)) (h338 : ¬ (sl = -1 ∧ c = 338)) : tickTail sl c s = s.setSeq (nextDot s.seq) := by
  rw [tickTail, tickVblank_off s hv, tickCompose_off s fun h => hl ⟨h.1, h.2.1⟩, tickClock_off s fun h => hl h.2,
    tickLatch_off s h338]

/-! ### The NMI state after a tick -/

/-- Step (d) on the NMI state. -/
def vblankNmi (n : NmiState) : NmiState :=
  let n1 := { (if n.suppressVblank then n else nmiChange { n with occurred := true }) with suppressVblank := false }
  if n1.suppressNmi then cancelNmi n1 else n1

theorem vblankStart_eq (s : State) : vblankStart s = { s with
    regs := { s.regs with
      status := if s.nmi.suppressVblank then s.regs.status else setBit s.regs.status vblankBit true }
    nmi := vblankNmi s.nmi } := by
  have cancel (q : State) : (if q.nmi.suppressNmi = true then q.setNmi (cancelNmi q.nmi) else q) =
      q.setNmi (if q.nmi.suppressNmi = true then cancelNmi q.nmi else q.nmi) := by
    split <;> rfl
  rw [vblankStart, cancel, vblankNmi]
  by_cases hv : s.nmi.suppressVblank = true
  · rw [if_pos hv, if_pos hv, if_pos hv]
    rfl
  · rw [if_neg hv, if_neg hv, if_neg hv]
    rfl

theorem tick_nmi_at_vblank {s t : State} (h : exec .tick s = .next t) (hdot : At s 241 1) :
    t.nmi = vblankNmi (nmiStepped s.nmi) := by
  rw [tick_nmi h, tickHead_of_not_preRender (by omega), tickVblank, if_pos hdot, vblankStart_eq]
  rfl

theorem tick_nmi_at_preRender {s t : State} (h : exec .tick s = .next t) (hdot : At s (-1) 1) :
    t.nmi = { nmiStepped s.nmi with occurred := false, previous := false, suppressNmi := false } := by
  rw [tick_nmi h, tickVblank_off _ (by omega), tickHead_of_preRender hdot]

theorem tick_nmi_elsewhere {s t : State} (h : exec .tick s = .next t) (h1 : ¬ At s (-1) 1) (h2 : ¬ At s 241 1) :
    t.nmi = nmiStepped s.nmi := by
  rw [tick_nmi h, tickVblank_off _ h2, tickHead_of_not_preRender h1]
  rfl

/-! ### The counters by the window they stand in (D8) -/

section
variable {n : NmiState}

theorem nmiStepped_of_idle (hd : n.delay = 0) : nmiStepped n = n := by
  rw [← nmiCounterStep_eq_nmiStepped, nmiCounterStep, if_neg (by omega)]

theorem nmiStepped_of_hold (hd : 0 < n.delay) (hh : 0 < n.hold) (hline : n.output = true ∧ n.occurred = true) :
    nmiStepped n = { n with hold := n.hold - 1 } := by
  rw [← nmiCounterStep_eq_nmiStepped, nmiCounterStep, if_pos hd, if_pos hh, if_pos (by simp [nmiLine, hline])]

theorem nmiStepped_of_fall (hd : 0 < n.delay) (hh : 0 < n.hold) (hline : ¬ (n.output = true ∧ n.occurred = true)) :
    nmiStepped n = { n with delay := 0, hold := 0 } := by
  rw [← nmiCounterStep_eq_nmiStepped, nmiCounterStep, if_pos hd, if_pos hh, if_neg (by simpa [nmiLine] using hline)]

theorem nmiStepped_of_delay (hd : 0 < n.delay) (hh : n.hold = 0) :
    nmiStepped n = { n with delay := n.delay - 1, flag := n.flag || decide (n.delay = 1) } := by
  have hpos : n.delay ≠ 0 := by omega
  simp [nmiStepped, hpos, hh]

end

/-- Settles O26: step (a) is the whole NMI work of such a tick, and its four cases are the four windows. -/
theorem tickStepsNmiCounters : Obligations.TickStepsNmiCounters := by
  unfold Obligations.TickStepsNmiCounters
  intro s t h h1 h2
  rw [tick_nmi_elsewhere h h1 h2]
  exact ⟨nmiStepped_of_idle, fun hd hh ho hv => nmiStepped_of_hold hd hh ⟨ho, hv⟩, nmiStepped_of_fall,
    nmiStepped_of_delay⟩

/-! ### The tick at (241, 1) (R219) -/

/-- Step (d) without `suppress_nmi`: the edge of a line that vblank raises. -/
theorem vblankNmi_of_not_suppressNmi {n : NmiState} (h : n.suppressNmi = false) : vblankNmi n = { n with
    suppressVblank := false
    occurred := if n.suppressVblank then n.occurred else true
    previous := if n.suppressVblank then n.previous else n.output
    delay := if n.suppressVblank = false ∧ n.output = true ∧ n.previous = false then 14 else n.delay
    hold := if n.suppressVblank = false ∧ n.output = true ∧ n.previous = false then 2 else n.hold } := by
  unfold vblankNmi
  cases hv : n.suppressVblank <;> simp [h, nmiChange_eq, nmiLine]

/-- Step (d) with `suppress_nmi`: the flag and both counters cancelled. -/
theorem vblankNmi_of_suppressNmi {n : NmiState} (h : n.suppressNmi = true) : vblankNmi n = { n with
    suppressVblank := false
    occurred := if n.suppressVblank then n.occurred else true
    previous := if n.suppressVblank then n.previous else n.output
    delay := 0, hold := 0, flag := false } := by
  unfold vblankNmi
  cases hv : n.suppressVblank <;> simp [h, nmiChange_eq, nmiLine, cancelNmi]

@[simp] theorem vblankNmi_suppressVblank (n : NmiState) : (vblankNmi n).suppressVblank = false := by
  cases h : n.suppressNmi
  · rw [vblankNmi_of_not_suppressNmi h]
  · rw [vblankNmi_of_suppressNmi h]

theorem advance_to_dot_two {q : Sequencer} (h : q.cycle = 1) : nextDot q = { q with cycle := 2 } := by
  rw [nextDot_of_no_skip, advance_of_dot, h]
  · omega
  · rw [skipsDot_iff]
    omega

theorem execTick_at_vblank {s : State} (h : At s 241 1) : exec .tick s = .next { s with
    regs := { s.regs with
      status := if s.nmi.suppressVblank then s.regs.status else setBit s.regs.status vblankBit true }
    nmi := vblankNmi (nmiStepped s.nmi), seq := { s.seq with cycle := 2 } } := by
  obtain ⟨hsl, hc⟩ := h
  rw [execTick_of_not_fetchLine (by omega), tickHead_of_not_preRender (by omega), hsl, hc, tickTail, tickVblank,
    if_pos ⟨rfl, rfl⟩, tickCompose_off _ (by omega), tickClock_off _ (by omega), tickLatch_off _ (by omega),
    vblankStart_eq, ← advance_to_dot_two hc]
  rfl

/-- Settles O27: by `suppress_nmi`, step (d) on what step (a) leaves. -/
theorem vblankStartsAtDotOneOfLine241 : Obligations.VblankStartsAtDotOneOfLine241 := by
  unfold Obligations.VblankStartsAtDotOneOfLine241
  intro s h
  refine ⟨_, _, execTick_at_vblank h, ?_⟩
  have hstatus := setVblankBit_toNat s.regs.status
  cases hn : s.nmi.suppressNmi
  · rw [vblankNmi_of_not_suppressNmi (n := nmiStepped s.nmi) hn]
    refine ⟨rfl, hn, rfl, fun hv => ?_, fun hv => ?_, nofun, fun _ => rfl, fun _ hedge => ?_, fun _ hedge => ?_⟩
    · simp [nmiStepped, hv]
    · simp [nmiStepped, hv, hstatus]
    · exact ⟨if_pos hedge, if_pos hedge⟩
    · exact ⟨if_neg hedge, if_neg hedge⟩
  · rw [vblankNmi_of_suppressNmi (n := nmiStepped s.nmi) hn]
    refine ⟨rfl, hn, rfl, fun hv => ?_, fun hv => ?_, fun _ => ⟨rfl, rfl, rfl⟩, nofun, nofun, nofun⟩
    · simp [nmiStepped, hv]
    · simp [nmiStepped, hv, hstatus]

/-! ### The tick at (−1, 1) (R217) -/

theorem clearFlags_toNat : ∀ x : Byte,
    (setBit (setBit (setBit x hitBit false) overflowBit false) vblankBit false).toNat = x.toNat % 32 := by decide

/-- Outside the window, the dummy dots and the transfer dots of line −1 the background does nothing. -/
theorem bgDot_of_idle {sl : Int} {c : Nat} (s : State) (hw : ¬ InWindow c) (hd : c ≠ 338 ∧ c ≠ 340)
    (ht : ¬ (sl = -1 ∧ 280 ≤ c ∧ c ≤ 304)) : bgDot sl c s = .ok s := by
  have hwindow : bgWindow c s = .ok s := if_neg ((bgActive_iff c).not.mpr hw)
  have hscroll : bgScroll sl c s = s := by
    rw [bgScroll_of_no_transfer s (by omega) ht, if_neg (by omega)]
  have hdummy : bgDummy c s = .ok s := if_neg (by omega)
  rw [bgDot, hwindow]
  dsimp only
  rw [hscroll, hdummy]

/-- On line −1 step (c) is the background's dot. -/
theorem tickFetch_preRenderLine (c : Nat) (s : State) : tickFetch (-1) c s = bgDot (-1) c s := by
  rw [tickFetch, if_pos (by decide)]
  cases bgDot (-1) c s with
  | ok q => rfl
  | error f => rfl

theorem execTick_at_preRender {s : State} (h : At s (-1) 1) : exec .tick s = .next { s with
    regs := { s.regs with
      status := setBit (setBit (setBit s.regs.status hitBit false) overflowBit false) vblankBit false }
    nmi := { nmiStepped s.nmi with occurred := false, previous := false, suppressNmi := false }
    spr := preRenderLine s, seq := { s.seq with cycle := 2 } } := by
  have hfetch : tickFetch s.seq.scanline s.seq.cycle (tickHead s) = .ok (tickHead s) := by
    obtain ⟨hsl, hc⟩ := h
    rw [hsl, hc, tickFetch_preRenderLine, bgDot_of_idle _ (by decide) (by decide) (by decide)]
  rw [execTick_of_fetch hfetch, tickTail_of_quiet _ (by omega) (by omega) (by omega), tickHead_seq,
    advance_to_dot_two h.2, tickHead_of_preRender h]
  rfl

/-- The sprite line under the open parameter, slot by slot (D17). -/
theorem clearSpriteLine_slots (p : SpriteLine) (i : Fin 8) :
    (clearSpriteLine p).slots[i] = if i.val < p.count then Slot.zero else p.slots[i] := by
  simp [clearSpriteLine, activeSlot]

/-- Settles O28: the status byte by number, the NMI state by step (a), the sprite line by the parameter. -/
theorem preRenderLineClearsFlags : Obligations.PreRenderLineClearsFlags := by
  unfold Obligations.PreRenderLineClearsFlags
  intro s h
  refine ⟨_, _, _, execTick_at_preRender h, clearFlags_toNat _, rfl, rfl, rfl, rfl, rfl, rfl, rfl, rfl, fun hp => ?_,
    fun hp => ?_⟩
  · rw [preRenderLine, if_neg (by simp [hp])]
  · rw [preRenderLine, if_pos hp]
    refine ⟨rfl, rfl, rfl, fun i => ⟨by simp [clearSpriteLine], by simp [clearSpriteLine], fun k hi => ?_, fun hi => ?_⟩⟩
    · rw [clearSpriteLine_slots, if_pos hi, slotByte_zero]
    · rw [clearSpriteLine_slots, if_neg hi]

/-! ### Completion (R215, R235) -/

/-- Settles O31: the tick answers, and the sequencer's transitions give the next position. -/
theorem tickCompletesUnlessAPatternReadFails : Obligations.TickCompletesUnlessAPatternReadFails := by
  unfold Obligations.TickCompletesUnlessAPatternReadFails
  intro s hs hanswers
  obtain ⟨t, h⟩ := execTick_answers hanswers
  rw [← skipsDot_iff]
  refine ⟨t, h, fun hskip => ?_, fun hskip hc => ?_, fun hc hl => ?_, fun hc hl => ?_⟩
  · unfold At
    rw [tick_seq_of_skip h hskip]
    exact ⟨rfl, rfl⟩
  · have hadvance := (tick_advances_of_no_skip h hskip).1
    rwa [advance_of_dot hc] at hadvance
  · have hadvance := (tick_advances_of_no_skip h (by rw [skipsDot_iff]; omega)).1
    rwa [advance_of_line_end hc hl] at hadvance
  · have hadvance := (tick_advances_of_no_skip h (by rw [skipsDot_iff]; omega)).1
    rwa [advance_of_frame_end hc hl] at hadvance

end Sys2Proof.Machine

/-! ## The sprites' part of a tick, group by group (43_sprites.md R180 to R189) -/

namespace Sys2Proof.Machine
open Sys2Proof.Spec

/-! ### One dot of evaluation -/

/-- The evaluation state after dot `c` of its window (R182 to R186). -/
def evalStep (ctrl : Byte) (oam : Memory) (sl : Int) (c : Nat) (e : SpriteEval) : SpriteEval :=
  let e0 := if c = 65 then evalReset e else e
  if e0.done then e0
  else if c % 2 = 1 then { e0 with readLatch := Memory.read oam ((e0.n * 4 + e0.m.toNat) % 256) }
  else evalDecide (inRange ctrl sl e0.readLatch) e0

/-- Dot `c` decides in overflow mode on a byte in range, which sets `status[5]` (R186). -/
def findsOverflow (ctrl : Byte) (sl : Int) (c : Nat) (e : SpriteEval) : Bool :=
  decide (c % 2 = 0) && !e.done && e.overflowMode && inRange ctrl sl e.readLatch

section
variable {ctrl : Byte} {oam : Memory} {sl : Int} {c : Nat} {e : SpriteEval}

theorem evalStep_at_start : evalStep ctrl oam sl 65 e = { evalReset e with readLatch := Memory.read oam 0 } := by
  rw [evalStep]
  rfl

theorem evalStep_of_done (hc : c ≠ 65) (hd : e.done = true) : evalStep ctrl oam sl c e = e := by
  simp only [evalStep, if_neg hc, if_pos hd]

theorem evalStep_of_odd (hc : c ≠ 65) (hd : e.done = false) (hodd : c % 2 = 1) :
    evalStep ctrl oam sl c e = { e with readLatch := Memory.read oam ((e.n * 4 + e.m.toNat) % 256) } := by
  simp only [evalStep, if_neg hc, hd, Bool.false_eq_true, if_false, if_pos hodd]

theorem evalStep_of_even (hd : e.done = false) (heven : c % 2 = 0) :
    evalStep ctrl oam sl c e = evalDecide (inRange ctrl sl e.readLatch) e := by
  have hc : c ≠ 65 := by omega
  simp only [evalStep, if_neg hc, hd, Bool.false_eq_true, if_false, heven, Nat.zero_ne_one]

theorem findsOverflow_iff : findsOverflow ctrl sl c e = true ↔
    c % 2 = 0 ∧ e.done = false ∧ e.overflowMode = true ∧ inRange ctrl sl e.readLatch = true := by
  simp [findsOverflow, and_assoc]

end

theorem evalRead_eq (s : State) : evalRead s = s.setEval { s.eval with
    readLatch := Memory.read s.oam ((s.eval.n * 4 + s.eval.m.toNat) % 256) } := by
  rw [evalRead, oamRead, BitVec.toNat_ofNat]

theorem evalDecideDot_eq (sl : Int) (s : State) : evalDecideDot sl s = { s with
    eval := evalDecide (inRange s.regs.ctrl sl s.eval.readLatch) s.eval
    regs := { s.regs with
      status := if s.eval.overflowMode && inRange s.regs.ctrl sl s.eval.readLatch
        then setBit s.regs.status overflowBit true else s.regs.status } } := by
  unfold evalDecideDot
  dsimp only
  split
  · rfl
  · rfl

/-- `EvalDot` changes the evaluation state and the overflow bit. -/
theorem evalDot_eq (sl : Int) (c : Nat) (s : State) : evalDot sl c s = { s with
    eval := evalStep s.regs.ctrl s.oam sl c s.eval
    regs := { s.regs with
      status := if findsOverflow s.regs.ctrl sl c s.eval then setBit s.regs.status overflowBit true
        else s.regs.status } } := by
  by_cases hstart : c = 65
  · subst hstart
    rw [evalDot, if_pos rfl, evalWork, if_neg (by simp [evalReset]), if_pos rfl, evalRead_eq, evalStep_at_start]
    rfl
  · rw [evalDot, if_neg hstart, evalWork]
    by_cases hd : s.eval.done = true
    · rw [if_pos hd, evalStep_of_done hstart hd, if_neg (by simp [findsOverflow, hd])]
    · rw [if_neg hd]
      rw [Bool.not_eq_true] at hd
      by_cases hodd : c % 2 = 1
      · rw [if_pos hodd, evalStep_of_odd hstart hd hodd, evalRead_eq, if_neg (by simp [findsOverflow, hodd])]
        rfl
      · have heven : c % 2 = 0 := by omega
        rw [if_neg hodd, evalStep_of_even hd heven, evalDecideDot_eq]
        simp [findsOverflow, heven, hd]

/-! ### `SpriteDot` without its pattern fetch -/

/-- Dots 65–256 of a visible line with rendering enabled (R180, R182). -/
abbrev EvaluatesAt (c : Nat) (s : State) : Prop := 65 ≤ c ∧ c ≤ 256 ∧ s.regs.renderingEnabled = true

/-- The evaluation state after dot `c` of a visible line. -/
def dotEval (sl : Int) (c : Nat) (s : State) : SpriteEval :=
  if EvaluatesAt c s then evalStep s.regs.ctrl s.oam sl c s.eval else s.eval

/-- The status byte after the sprites' part of dot `c` of a visible line. -/
def dotStatus (sl : Int) (c : Nat) (s : State) : Byte :=
  if EvaluatesAt c s then
    if findsOverflow s.regs.ctrl sl c s.eval then setBit s.regs.status overflowBit true else s.regs.status
  else s.regs.status

/-- The sprite line after dot `c` of a visible line, dot 340 and the composer apart. -/
def dotLine (c : Nat) (s : State) : SpriteLine :=
  if 2 ≤ c ∧ c ≤ 256 then updateSpriteShifters s.spr
  else if c = 257 then
    { s.spr with slots := s.eval.slots, count := s.eval.count, zeroHitPossible := s.eval.zeroPossible }
  else s.spr

theorem spriteWork_eq (sl : Int) (c : Nat) (s : State) : spriteWork sl c s = { s with
    spr := dotLine c s, eval := dotEval sl c s, regs := { s.regs with status := dotStatus sl c s } } := by
  have heval (p : SpriteLine) : (if EvaluatesAt c (s.setSpr p) then evalDot sl c (s.setSpr p) else s.setSpr p) =
      { s with spr := p, eval := dotEval sl c s, regs := { s.regs with status := dotStatus sl c s } } := by
    rw [dotEval, dotStatus, evalDot_eq]
    by_cases hw : EvaluatesAt c s
    · rw [if_pos (c := EvaluatesAt c (s.setSpr p)) hw, if_pos hw, if_pos hw]
      rfl
    · rw [if_neg (c := EvaluatesAt c (s.setSpr p)) hw, if_neg hw, if_neg hw]
      rfl
  have hshift : (if 2 ≤ c ∧ c ≤ 256 then s.setSpr (updateSpriteShifters s.spr) else s) =
      s.setSpr (if 2 ≤ c ∧ c ≤ 256 then updateSpriteShifters s.spr else s.spr) := by
    split
    · rfl
    · rfl
  rw [spriteWork, hshift]
  dsimp only
  rw [heval, dotLine]
  by_cases hcopy : c = 257
  · have hdot : dotEval sl c s = s.eval := if_neg (by omega)
    have hno : ¬ (2 ≤ c ∧ c ≤ 256) := by omega
    rw [if_pos hcopy, if_pos hcopy, if_neg hno, if_neg hno, hdot]
    rfl
  · rw [if_neg hcopy, if_neg hcopy]

/-- At every dot but 340 `SpriteDot` reads no pattern. -/
theorem spriteDot_of_ne {sl : Int} {c : Nat} (s : State) (hc : c ≠ 340) : spriteDot sl c s = .ok (spriteWork sl c s) :=
  if_neg hc

/-- Dot 340 is the pattern fetch alone. -/
theorem spriteDot_at_fetch (sl : Int) (s : State) : spriteDot sl 340 s = fetchSpritePatterns sl s := by
  have hwork : spriteWork sl 340 s = s := by simp [spriteWork]
  rw [spriteDot, hwork]
  rfl

/-- `SpriteDot` changes the sprite line, the evaluation state, the overflow bit and what a bus read may change; its
pattern fetch of dot 340 only shifters. -/
theorem spriteDot_cases {sl : Int} {c : Nat} {s t : State} (h : spriteDot sl c s = .ok t) :
    ∃ lo hi log m, (c ≠ 340 → lo = (dotLine c s).shifterLo ∧ hi = (dotLine c s).shifterHi ∧
        log = s.cartLog ∧ m = s.mir.cached) ∧ t = { s with
      spr := { dotLine c s with shifterLo := lo, shifterHi := hi }, eval := dotEval sl c s
      regs := { s.regs with status := dotStatus sl c s }, cartLog := log, mir := { s.mir with cached := m } } := by
  by_cases hc : c = 340
  · subst hc
    rw [spriteDot_at_fetch] at h
    obtain ⟨lo, hi, log, m, rfl⟩ := fetchSlots_keeps h
    exact ⟨lo, hi, log, m, fun hne => absurd rfl hne, rfl⟩
  · rw [spriteDot_of_ne s hc, spriteWork_eq] at h
    cases h
    exact ⟨_, _, _, _, fun _ => ⟨rfl, rfl, rfl, rfl⟩, rfl⟩

/-! ### The tick on a visible line -/

/-- On a visible line step (c) is the background's dot, then the sprites'. -/
theorem tickFetch_visible_cases {sl : Int} {c : Nat} {s q : State} (h : tickFetch sl c s = .ok q)
    (hl : 0 ≤ sl ∧ sl ≤ 239) : ∃ b, bgDot sl c s = .ok b ∧ spriteDot sl c b = .ok q := by
  rw [tickFetch, if_pos (by omega)] at h
  split at h
  next => cases h
  next b hb =>
    rw [if_pos hl.1] at h
    exact ⟨b, hb, h⟩

/-- On a visible line the tick is the background's dot, the sprites', the composer and the scanline clock. -/
theorem tick_visible_cases {s t : State} (h : exec .tick s = .next t) (hl : OnVisibleLine s) :
    ∃ b q, bgDot s.seq.scanline s.seq.cycle (s.setNmi (nmiStepped s.nmi)) = .ok b ∧
      spriteDot s.seq.scanline s.seq.cycle b = .ok q ∧
      t = (tickClock s.seq.scanline s.seq.cycle (tickCompose s.seq.scanline s.seq.cycle q)).setSeq (nextDot s.seq) := by
  obtain ⟨q, hfetch, rfl⟩ := execTick_cases h
  rw [tickHead_of_not_preRender (by omega)] at hfetch
  obtain ⟨b, hb, hq⟩ := tickFetch_visible_cases hfetch hl
  obtain ⟨hseq, -⟩ := tickFetch_keeps hfetch
  refine ⟨b, q, hb, hq, ?_⟩
  have hseq : (tickClock s.seq.scanline s.seq.cycle (tickCompose s.seq.scanline s.seq.cycle q)).seq = s.seq := by
    rw [tickClock_seq, tickCompose_seq, hseq, State.setNmi_seq]
  rw [tickTail, tickVblank_off _ (by omega), tickLatch_off _ (by omega), hseq]

/-- What step (c) leaves on a visible line, read in the state before the tick. -/
theorem tick_visible_fields {s t : State} (h : exec .tick s = .next t) (hl : OnVisibleLine s) :
    ∃ q lo hi, t = (tickClock s.seq.scanline s.seq.cycle (tickCompose s.seq.scanline s.seq.cycle q)).setSeq
        (nextDot s.seq) ∧
      q.eval = dotEval s.seq.scanline s.seq.cycle s ∧
      q.spr = { dotLine s.seq.cycle s with shifterLo := lo, shifterHi := hi } ∧
      (s.seq.cycle ≠ 340 → lo = (dotLine s.seq.cycle s).shifterLo ∧ hi = (dotLine s.seq.cycle s).shifterHi) ∧
      q.regs = { s.regs with v := q.regs.v, status := dotStatus s.seq.scanline s.seq.cycle s } ∧
      q.frame = s.frame ∧ q.palette = s.palette ∧ q.params = s.params := by
  obtain ⟨b, q, hb, hq, rfl⟩ := tick_visible_cases h hl
  obtain ⟨v, bg, log, m, rfl⟩ := bgDot_frame hb
  obtain ⟨lo, hi, log', m', hne, rfl⟩ := spriteDot_cases hq
  exact ⟨_, lo, hi, rfl, rfl, rfl, fun hc => ⟨(hne hc).1, (hne hc).2.1⟩, rfl, rfl, rfl, rfl⟩

/-- The evaluation state after any tick. -/
theorem tick_eval {s t : State} (h : exec .tick s = .next t) :
    t.eval = if OnVisibleLine s then dotEval s.seq.scanline s.seq.cycle s else s.eval := by
  split
  next hl =>
    obtain ⟨q, _, _, rfl, heval, -⟩ := tick_visible_fields h hl
    simp [heval]
  next hl =>
    obtain ⟨q, hq, rfl⟩ := execTick_cases h
    rw [tickTail_eval]
    by_cases hpre : s.seq.scanline = -1
    · rw [hpre, tickFetch_preRenderLine] at hq
      obtain ⟨_, _, _, _, rfl⟩ := bgDot_frame hq
      exact tickHead_eval s
    · rw [tickFetch_off (by omega)] at hq
      cases hq
      exact tickHead_eval s

/-- On a visible line away from dot 340, the sprite line after a tick; only the composer adds to it. -/
theorem tick_spr_visible {s t : State} (h : exec .tick s = .next t) (hl : OnVisibleLine s) (hc : s.seq.cycle ≠ 340) :
    t.spr = { dotLine s.seq.cycle s with zeroBeingRendered := t.spr.zeroBeingRendered } := by
  obtain ⟨q, lo, hi, rfl, -, hspr, hne, -⟩ := tick_visible_fields h hl
  obtain ⟨rfl, rfl⟩ := hne hc
  ext <;> simp [hspr]

/-- On a visible line, at every dot: the parts of the sprite line that the pattern fetch and the composer keep. -/
theorem tick_spr_visible_parts {s t : State} (h : exec .tick s = .next t) (hl : OnVisibleLine s) :
    t.spr.slots = (dotLine s.seq.cycle s).slots ∧ t.spr.count = (dotLine s.seq.cycle s).count ∧
      t.spr.zeroHitPossible = (dotLine s.seq.cycle s).zeroHitPossible := by
  obtain ⟨q, lo, hi, rfl, -, hspr, -⟩ := tick_visible_fields h hl
  simp [hspr]

/-- On the other lines the sprite line after a tick is that of its head. -/
theorem tick_spr_not_visible {s t : State} (h : exec .tick s = .next t) (hl : ¬ OnVisibleLine s) :
    t.spr = if At s (-1) 1 then preRenderLine s else s.spr := by
  have hhead : (tickHead s).spr = if At s (-1) 1 then preRenderLine s else s.spr := by
    by_cases hpre : At s (-1) 1
    · rw [if_pos hpre, tickHead_of_preRender hpre]
    · rw [if_neg hpre, tickHead_of_not_preRender hpre, State.setNmi_spr]
  obtain ⟨q, hq, rfl⟩ := execTick_cases h
  rw [tickTail_spr, tickCompose_off _ (fun hc => hl ⟨hc.1, hc.2.1⟩), tickVblank_spr, ← hhead]
  by_cases hpre : s.seq.scanline = -1
  · rw [hpre, tickFetch_preRenderLine] at hq
    obtain ⟨_, _, _, _, rfl⟩ := bgDot_frame hq
    rfl
  · rw [tickFetch_off (by omega)] at hq
    cases hq
    rfl

end Sys2Proof.Machine

/-! ## What a tick keeps and who writes each piece of state (45_frame_driver.md, 10_state.md) -/

namespace Sys2Proof.Machine
open Sys2Proof.Spec

/-! ### The state outside the pipelines -/

theorem tick_regs {s t : State} (h : exec .tick s = .next t) :
    t.regs = { s.regs with v := t.regs.v, status := t.regs.status } := by
  obtain ⟨q, hq, rfl⟩ := execTick_cases h
  have hregs := tickFetch_regs hq
  ext1 <;> simp only [tickTail_ctrl, tickTail_mask, tickTail_oamAddr, tickTail_t, tickTail_fineX,
    tickTail_addressLatch, tickTail_ppuDataBuffer, tickTail_renderingEnabled] <;> rw [hregs] <;> simp

/-- The memories but the framebuffer, and the model's own fields. -/
theorem tick_memories {s t : State} (h : exec .tick s = .next t) :
    t.nametable = s.nametable ∧ t.palette = s.palette ∧ t.oam = s.oam ∧ t.params = s.params ∧
      t.stimuli = s.stimuli ∧ t.answer = s.answer ∧ t.mir.dynamic = s.mir.dynamic := by
  obtain ⟨q, hq, rfl⟩ := execTick_cases h
  obtain ⟨-, -, -, -, hpalette, hnametable, hoam, hparams, hstimuli, hanswer, hdynamic, -⟩ := tickFetch_keeps hq
  simp [hpalette, hnametable, hoam, hparams, hstimuli, hanswer, hdynamic]

/-- The scanline clock of the test cartridge (R221). -/
theorem tickClock_cart_of_testT0 {sl : Int} {c : Nat} {s : State} {board : T0Board} (hcart : s.cart = .testT0 board) :
    (tickClock sl c s).cart = .testT0 { board with
      clocks := board.clocks +
        if s.regs.renderingEnabled = true ∧ c = 260 ∧ 0 ≤ sl ∧ sl ≤ 239 then 1 else 0 } := by
  unfold tickClock
  split
  · rw [cartClockScanline, hcart]
    rfl
  · exact hcart

theorem tickClock_cart_of_mapper {sl : Int} {c : Nat} {s : State} {id : Nat} (hcart : s.cart = .mapper id) :
    (tickClock sl c s).cart = .mapper id := by
  unfold tickClock
  split
  · rw [cartClockScanline, hcart]
    rfl
  · exact hcart

/-- The cartridge after a tick is that after the clock. -/
theorem tick_cart {s t : State} (h : exec .tick s = .next t) : ∃ q : State, q.cart = s.cart ∧
    q.regs.renderingEnabled = s.regs.renderingEnabled ∧
    t.cart = (tickClock s.seq.scanline s.seq.cycle q).cart := by
  obtain ⟨q, hq, rfl⟩ := execTick_cases h
  obtain ⟨-, -, -, hcart, -⟩ := tickFetch_keeps hq
  refine ⟨q, hcart.trans (tickHead_cart s), ?_, tickTail_cart _ _ _⟩
  rw [tickFetch_regs hq, tickHead_renderingEnabled]

theorem tick_cart_of_testT0 {s t : State} (h : exec .tick s = .next t) {board : T0Board}
    (hcart : s.cart = .testT0 board) : t.cart = .testT0 { board with
      clocks := board.clocks +
        if s.regs.renderingEnabled = true ∧ s.seq.cycle = 260 ∧ 0 ≤ s.seq.scanline ∧ s.seq.scanline ≤ 239
        then 1 else 0 } := by
  obtain ⟨q, hq, hon, ht⟩ := tick_cart h
  rw [ht, tickClock_cart_of_testT0 (hq.trans hcart), hon]

theorem tick_cart_of_mapper {s t : State} (h : exec .tick s = .next t) {id : Nat} (hcart : s.cart = .mapper id) :
    t.cart = .mapper id := by
  obtain ⟨q, hq, -, ht⟩ := tick_cart h
  rw [ht, tickClock_cart_of_mapper (hq.trans hcart)]

theorem tick_frame_not_visible {s t : State} (h : exec .tick s = .next t) (hl : ¬ OnVisibleLine s) :
    t.frame = s.frame := by
  obtain ⟨q, hq, rfl⟩ := execTick_cases h
  obtain ⟨-, -, hframe, -⟩ := tickFetch_keeps hq
  rw [tickTail_frame, tickCompose_off _ (fun hc => hl ⟨hc.1, hc.2.1⟩), tickVblank_frame, hframe, tickHead_frame]

/-! ### The status byte -/

theorem hitBit_toNat : ∀ x : Byte, (setBit x hitBit true).toNat % 32 = x.toNat % 32 := by decide

theorem overflowBit_toNat : ∀ x : Byte, (setBit x overflowBit true).toNat % 32 = x.toNat % 32 := by decide

theorem compose_status (sl : Int) (c : Nat) (s : State) : (compose sl c s).regs.status =
    if spriteZeroHit s.regs s.spr.zeroHitPossible (zeroFlag s.spr (fgPixel s.regs s.spr c)) c (bgPixel s.regs s.bg c)
      (fgPixel s.regs s.spr c).pixel then setBit s.regs.status hitBit true else s.regs.status := by
  unfold compose
  dsimp only
  split
  · rfl
  · rfl

/-- The status byte after a tick off the visible lines. -/
theorem tick_status_not_visible {s t : State} (h : exec .tick s = .next t) (hl : ¬ OnVisibleLine s) :
    t.regs.status =
      if At s (-1) 1 then setBit (setBit (setBit s.regs.status hitBit false) overflowBit false) vblankBit false
      else if At s 241 1 ∧ s.nmi.suppressVblank = false then setBit s.regs.status vblankBit true
      else s.regs.status := by
  by_cases hpre : At s (-1) 1
  · rw [execTick_at_preRender hpre] at h
    cases h
    rw [if_pos hpre]
  · by_cases hv : At s 241 1
    · rw [execTick_at_vblank hv] at h
      cases h
      cases s.nmi.suppressVblank <;> simp [hpre, hv]
    · obtain ⟨q, hq, rfl⟩ := execTick_cases h
      have hstatus : q.regs.status = s.regs.status := by
        rw [tickHead_of_not_preRender hpre] at hq
        by_cases hline : s.seq.scanline = -1
        · rw [hline, tickFetch_preRenderLine] at hq
          obtain ⟨_, _, _, _, rfl⟩ := bgDot_frame hq
          rfl
        · rw [tickFetch_off (by omega)] at hq
          cases hq
          rfl
      rw [if_neg hpre, if_neg fun hc => hv hc.1, tickTail_status, tickCompose_off _ (fun hc => hl ⟨hc.1, hc.2.1⟩),
        tickVblank_off _ hv, hstatus]

/-- The status byte after a tick of a visible line: evaluation may set the overflow bit, then the composer the hit
bit. -/
theorem tick_status_visible {s t : State} (h : exec .tick s = .next t) (hl : OnVisibleLine s) :
    t.regs.status = dotStatus s.seq.scanline s.seq.cycle s ∨
      t.regs.status = setBit (dotStatus s.seq.scanline s.seq.cycle s) hitBit true := by
  obtain ⟨q, _, _, rfl, -, -, -, hregs, -⟩ := tick_visible_fields h hl
  have hstatus : q.regs.status = dotStatus s.seq.scanline s.seq.cycle s := by rw [hregs]
  rw [State.setSeq_regs, tickClock_regs, ← hstatus]
  unfold tickCompose
  split
  · rw [compose_status]
    split
    · exact .inr rfl
    · exact .inl rfl
  · exact .inl rfl

theorem dotStatus_cases (sl : Int) (c : Nat) (s : State) :
    dotStatus sl c s = s.regs.status ∨ dotStatus sl c s = setBit s.regs.status overflowBit true := by
  unfold dotStatus
  split_ifs
  · exact .inr rfl
  · exact .inl rfl
  · exact .inl rfl

/-- What every bit of the status byte that a tick of a visible line keeps keeps. -/
theorem tick_status_visible_keeps {P : Byte → Prop} (hhit : ∀ x, P x → P (setBit x hitBit true))
    (hoverflow : ∀ x, P x → P (setBit x overflowBit true)) {s t : State} (h : exec .tick s = .next t)
    (hl : OnVisibleLine s) (hs : P s.regs.status) : P t.regs.status := by
  have hdot : P (dotStatus s.seq.scanline s.seq.cycle s) := by
    rcases dotStatus_cases s.seq.scanline s.seq.cycle s with hd | hd
    · rwa [hd]
    · rw [hd]
      exact hoverflow _ hs
  rcases tick_status_visible h hl with ht | ht
  · rwa [ht]
  · rw [ht]
    exact hhit _ hdot

theorem tick_status_low {s t : State} (h : exec .tick s = .next t) :
    t.regs.status.toNat % 32 = s.regs.status.toNat % 32 := by
  by_cases hl : OnVisibleLine s
  · exact tick_status_visible_keeps (P := fun x => x.toNat % 32 = s.regs.status.toNat % 32)
      (fun x hx => (hitBit_toNat x).trans hx) (fun x hx => (overflowBit_toNat x).trans hx) h hl rfl
  · have hclear := clearFlags_toNat s.regs.status
    have hset := setVblankBit_toNat s.regs.status
    rw [tick_status_not_visible h hl]
    split_ifs
    · omega
    · omega
    · rfl

theorem tick_vblankBit {s t : State} (h : exec .tick s = .next t) :
    bit t.regs.status 7 = if At s (-1) 1 then false else
      if At s 241 1 ∧ s.nmi.suppressVblank = false then true else bit s.regs.status 7 := by
  by_cases hl : OnVisibleLine s
  · rw [if_neg (by omega), if_neg (by omega)]
    exact tick_status_visible_keeps (P := fun x => bit x 7 = bit s.regs.status 7)
      (fun x hx => (bit_setBit_other x hitBit 7 true (by decide)).trans hx)
      (fun x hx => (bit_setBit_other x overflowBit 7 true (by decide)).trans hx) h hl rfl
  · rw [tick_status_not_visible h hl]
    split_ifs
    · exact bit_setBit_same _ vblankBit false (by decide)
    · exact bit_setBit_same _ vblankBit true (by decide)
    · rfl

/-- Settles O53: the parts of a tick one by one; on the idle lines only its head and the position are left. -/
theorem tickFrameAndScanlineClock : Obligations.TickFrameAndScanlineClock := by
  unfold Obligations.TickFrameAndScanlineClock
  intro s t h
  obtain ⟨hnametable, hpalette, hoam, hparams, hstimuli, hanswer, hdynamic⟩ := tick_memories h
  refine ⟨tick_regs h, hnametable, hpalette, hoam, hparams, hstimuli, hanswer, hdynamic, tick_status_low h,
    fun h1 h2 => ?_, fun id hc => tick_cart_of_mapper h hc, fun board hc => tick_cart_of_testT0 h hc, fun hl => ?_,
    fun hl => ?_⟩
  · rw [tick_vblankBit h, if_neg h1, if_neg fun hc => h2 hc.1]
  · have hvis : ¬ OnVisibleLine s := by omega
    refine ⟨by rw [tick_eval h, if_neg hvis], tick_frame_not_visible h hvis, fun hc => ?_⟩
    rw [tick_spr_not_visible h hvis, if_neg fun hpre => hc hpre.2]
  · have hvis : ¬ OnVisibleLine s := by omega
    have hfetch : ¬ OnFetchLine s := by omega
    refine ⟨?_, ?_, by rw [tick_eval h, if_neg hvis], tick_v_of_not_fetchLine h hfetch, tick_frame_not_visible h hvis, ?_⟩
    · rw [execTick_of_not_fetchLine hfetch, Host.Outcome.next.injEq] at h
      rw [← h, tickTail_bg, tickHead_bg]
    · rw [tick_spr_not_visible h hvis, if_neg (by omega)]
    · rw [execTick_of_not_fetchLine hfetch, Host.Outcome.next.injEq] at h
      rw [← h, tickTail_mir, tickHead_mir, tickTail, State.setSeq_cartLog, tickLatch_cartLog, tickClock_off _ (by omega),
        tickCompose_cartLog, tickVblank_cartLog, tickHead_cartLog]
      exact ⟨rfl, rfl⟩

/-! ### The writers (10_state.md) -/

theorem exec_wPpuScroll_cases {d : Byte} {s t : State} (h : exec (.wPpuScroll d) s = .next t) :
    ∃ x fine latch, t = s.setRegs { s.regs with t := x, fineX := fine, addressLatch := latch } := by
  cases hl : s.regs.addressLatch with
  | false =>
    rw [exec_wPpuScroll_first d hl] at h
    cases h
    exact ⟨_, _, _, rfl⟩
  | true =>
    rw [exec_wPpuScroll_second d hl] at h
    cases h
    exact ⟨_, s.regs.fineX, _, rfl⟩

theorem exec_wPpuAddr_cases {d : Byte} {s t : State} (h : exec (.wPpuAddr d) s = .next t) :
    ∃ x v latch, t = s.setRegs { s.regs with t := x, v := v, addressLatch := latch } := by
  cases hl : s.regs.addressLatch with
  | false =>
    rw [exec_wPpuAddr_first d hl] at h
    cases h
    exact ⟨_, s.regs.v, _, rfl⟩
  | true =>
    rw [exec_wPpuAddr_second d hl] at h
    cases h
    exact ⟨_, _, _, rfl⟩

/-- `W.PPUDATA` changes `v`, the memories of the bus, the cartridge and what its calls may change. -/
theorem exec_wPpuData_cases {d : Byte} {s t : State} (h : exec (.wPpuData d) s = .next t) :
    ∃ v m nt pal cart log, t = { s with
      regs := { s.regs with v := v }, mir := m, nametable := nt, palette := pal, cart := cart, cartLog := log } := by
  obtain rfl : stepVram (ppuWrite (busAddr s.regs.v) d s) = t := by simpa [exec, execWPpuData] using h
  obtain ⟨c, log, -, hw⟩ | ⟨-, -, q, rfl, hw⟩ | ⟨-, hw⟩ := ppuWrite_cases (busAddr s.regs.v) d s
  · rw [hw]
    exact ⟨_, _, _, _, _, _, rfl⟩
  · obtain ⟨log, m, hq⟩ := queryMirroring_same s
    rw [hw, hq]
    exact ⟨_, _, _, _, _, _, rfl⟩
  · rw [hw]
    exact ⟨_, _, _, _, _, _, rfl⟩

/-- `R.PPUDATA` changes `v`, the buffer, the answer and what its reads may change. -/
theorem exec_rPpuData_frame {s t : State} (h : exec .rPpuData s = .next t) :
    ∃ v b log m a, t = { s with
      regs := { s.regs with v := v, ppuDataBuffer := b }, cartLog := log, mir := m, answer := a } := by
  obtain ⟨r, b, q, ⟨log, m, rfl⟩, rfl⟩ := exec_rPpuData_cases h
  exact ⟨_, _, _, _, _, rfl⟩

theorem exec_dma_cases {page : Byte} {bytes : List Byte} {s t : State} (h : exec (.dma page bytes) s = .next t) :
    t = s.setOam (oamBurst s.oam s.regs.oamAddr bytes) := by
  by_cases hlen : bytes.length = 256
  · rw [exec_dma page s hlen] at h
    cases h
    rfl
  · rw [exec_dma_of_other_length page s hlen] at h
    cases h

/-- A read of a write-only register changes the answer. -/
theorem exec_readZero_cases {i : Instr} {s t : State} (hi : i ∈ [Instr.rPpuCtrl, .rPpuMask, .rOamAddr, .rPpuScroll, .rPpuAddr])
    (h : exec i s = .next t) : t = s.setAnswer (.byte 0) := by
  rw [(writeOnlyRegistersReadZero.1 i s hi), Host.Outcome.next.injEq] at h
  exact h.symm

end Sys2Proof.Machine

/-! ## Who writes each piece of state, and what that gives (10_state.md, 92_eei_decisions.md D6) -/

namespace Sys2Proof.Machine
open Sys2Proof.Spec

/-- Settles O54: operation by operation, what its next state differs in. -/
theorem onlyTheseOperationsWriteEachPiece : Obligations.OnlyTheseOperationsWriteEachPiece := by
  unfold Obligations.OnlyTheseOperationsWriteEachPiece
  intro i s t h
  cases i
  case wPpuScroll d =>
    obtain ⟨x, fine, latch, rfl⟩ := exec_wPpuScroll_cases h
    simp
  case wPpuAddr d =>
    obtain ⟨x, v, latch, rfl⟩ := exec_wPpuAddr_cases h
    simp
  case wPpuData d =>
    obtain ⟨v, m, nt, pal, cart, log, rfl⟩ := exec_wPpuData_cases h
    simp
  case rPpuData =>
    obtain ⟨v, b, log, m, a, rfl⟩ := exec_rPpuData_frame h
    simp
  case dma page bytes =>
    obtain rfl := exec_dma_cases h
    simp
  case tick =>
    obtain ⟨hnametable, hpalette, hoam, hparams, hstimuli, -⟩ := tick_memories h
    rw [tick_regs h, hnametable, hpalette, hoam, hparams, hstimuli]
    simp
  case reset =>
    rw [exec_reset, resetState_eq, Host.Outcome.next.injEq] at h
    obtain rfl := h
    simp
  case rPpuStatus =>
    rw [exec_rPpuStatus, Host.Outcome.next.injEq] at h
    obtain rfl := h
    simp
  all_goals
    cases h
    simp [readZero]

/-! ### Position and `suppress_vblank` -/

/-- Only `TICK` and `RESET` move the sequencer. -/
theorem exec_keeps_position {i : Instr} {s t : State} (h : exec i s = .next t) (hr : i ≠ .reset) (ht : i ≠ .tick) :
    t.seq.scanline = s.seq.scanline ∧ t.seq.cycle = s.seq.cycle := by
  obtain ⟨-, -, -, -, -, -, -, -, -, -, -, hseq, -⟩ := onlyTheseOperationsWriteEachPiece i s t h
  by_contra hne
  exact (hseq (by tauto)).elim hr ht

theorem tick_suppressVblank {s t : State} (h : exec .tick s = .next t) :
    t.nmi.suppressVblank = if At s 241 1 then false else s.nmi.suppressVblank := by
  by_cases hv : At s 241 1
  · rw [if_pos hv, tick_nmi_at_vblank h hv, vblankNmi_suppressVblank]
  · rw [if_neg hv]
    by_cases hpre : At s (-1) 1
    · rw [tick_nmi_at_preRender h hpre]
      rfl
    · rw [tick_nmi_elsewhere h hpre hv]
      rfl

theorem statusRace_suppressVblank (s : State) :
    (statusRace s.seq s.nmi).suppressVblank = true ↔ s.nmi.suppressVblank = true ∨ At s 241 1 := by
  by_cases h1 : At s 241 1
  · rw [statusRace_at_one h1]
    exact iff_of_true rfl (.inr h1)
  · by_cases h23 : At s 241 2 ∨ At s 241 3
    · rw [statusRace_at_two_or_three h23]
      exact (or_iff_left h1).symm
    · rw [statusRace_elsewhere h1 h23]
      exact (or_iff_left h1).symm

theorem exec_keeps_suppressVblank {i : Instr} {s t : State} (h : exec i s = .next t) (hr : i ≠ .reset)
    (ht : i ≠ .tick) (hread : i ≠ .rPpuStatus) : t.nmi.suppressVblank = s.nmi.suppressVblank := by
  obtain ⟨-, -, -, -, -, -, -, -, -, hnmi, -⟩ := onlyTheseOperationsWriteEachPiece i s t h
  by_cases hkeep : t.nmi = s.nmi
  · rw [hkeep]
  · obtain rfl | rfl | rfl | rfl | ⟨d, rfl⟩ := hnmi hkeep
    · exact absurd rfl hr
    · exact absurd rfl ht
    · exact absurd rfl hread
    · cases h
      rfl
    · cases h
      exact nmiChange_suppressVblank _

theorem exec_keeps_suppressOnlyAtVblank {i : Instr} {s t : State} (hs : SuppressOnlyAtVblank s)
    (h : exec i s = .next t) : SuppressOnlyAtVblank t := by
  intro hset
  by_cases hreset : i = .reset
  · subst hreset
    cases h
    cases hset
  · by_cases htick : i = .tick
    · subst htick
      rw [tick_suppressVblank h] at hset
      split at hset
      next => cases hset
      next hv => exact absurd (hs hset) hv
    · have hposition := exec_keeps_position h hreset htick
      have hat : At s 241 1 := by
        by_cases hread : i = .rPpuStatus
        · subst hread
          rw [exec_rPpuStatus] at h
          cases h
          exact ((statusRace_suppressVblank s).mp hset).elim hs id
        · rw [exec_keeps_suppressVblank h hreset htick hread] at hset
          exact hs hset
      exact ⟨hposition.1.trans hat.1, hposition.2.trans hat.2⟩

/-- Settles O29: only a read at (241, 1) sets the flag, and only the tick there leaves that dot. -/
theorem suppressVblankEndsWithItsDot : Obligations.SuppressVblankEndsWithItsDot := by
  unfold Obligations.SuppressVblankEndsWithItsDot
  intro s t hs h
  obtain rfl | ⟨i, rest, hi⟩ := step_cases h
  · exact hs
  · exact exec_keeps_suppressOnlyAtVblank (s := { s with stimuli := rest }) hs hi

/-! ### The sticky flags -/

theorem tick_keeps_flag {s t : State} {k : Nat} (h : exec .tick s = .next t)
    (hs : bit s.regs.status k = true) (hpre : ¬ At s (-1) 1) : bit t.regs.status k = true := by
  have hset (i : Nat) (hi : i < 8) (x : Byte) (hx : bit x k = true) : bit (setBit x i true) k = true := by
    by_cases hik : k = i
    · rw [hik, bit_setBit_same _ _ _ hi]
    · rwa [bit_setBit_other _ _ _ _ hik]
  by_cases hl : OnVisibleLine s
  · exact tick_status_visible_keeps (hset hitBit (by decide)) (hset overflowBit (by decide)) h hl hs
  · rw [tick_status_not_visible h hl, if_neg hpre]
    split
    · exact hset vblankBit (by decide) _ hs
    · exact hs

/-- Settles O55: of the three operations that write `status`, the read touches bit 7 only and a tick clears the flags at
(−1, 1) only. -/
theorem hitAndOverflowFlagsAreSticky : Obligations.HitAndOverflowFlagsAreSticky := by
  unfold Obligations.HitAndOverflowFlagsAreSticky
  intro i s t k hk h hs ht
  obtain ⟨-, -, -, -, -, -, -, -, hstatus, -⟩ := onlyTheseOperationsWriteEachPiece i s t h
  have hne : t.regs.status ≠ s.regs.status := by
    intro heq
    rw [heq, hs] at ht
    cases ht
  obtain rfl | rfl | rfl := hstatus hne
  · exact .inl rfl
  · refine .inr ⟨rfl, ?_⟩
    by_contra hpre
    rw [tick_keeps_flag h hs hpre] at ht
    cases ht
  · rw [exec_rPpuStatus] at h
    cases h
    rw [bit_setBit_other _ vblankBit k false (by unfold vblankBit; omega), hs] at ht
    cases ht

/-! ### The transfers of `v` (42_background_pipeline.md R172, R173) -/

theorem transferX_toNat (v t : VramAddr) : (transferX v t).toNat =
    vOf (v.toNat / 4096) (v.toNat / 2048 % 2) (t.toNat / 1024 % 2) (v.toNat / 32 % 32) (t.toNat % 32) := by
  rw [toNat_eq_vOf_fields (transferX v t), transferX_fineY, transferX_nty, transferX_ntx, transferX_coarseY,
    transferX_coarseX, fineYField_toNat, ntyField_toNat, ntxField_toNat, coarseYField_toNat, coarseXField_toNat]

theorem transferY_toNat (v t : VramAddr) : (transferY v t).toNat =
    vOf (t.toNat / 4096) (t.toNat / 2048 % 2) (v.toNat / 1024 % 2) (t.toNat / 32 % 32) (v.toNat % 32) := by
  rw [toNat_eq_vOf_fields (transferY v t), transferY_fineY, transferY_nty, transferY_ntx, transferY_coarseY,
    transferY_coarseX, fineYField_toNat, ntyField_toNat, ntxField_toNat, coarseYField_toNat, coarseXField_toNat]

/-- Before the scroll work of a fetch line, `v` has had its gated X increment and `t` and the gate stand. -/
theorem bgWindow_regs_of_tick {s q : State} (hq : bgWindow s.seq.cycle (tickHead s) = .ok q) :
    q.regs.t = s.regs.t ∧ q.regs.renderingEnabled = s.regs.renderingEnabled ∧
      q.regs.v = if (InWindow s.seq.cycle ∧ s.seq.cycle % 8 = 0) ∧ s.regs.renderingEnabled = true
        then incrementX s.regs.v else s.regs.v := by
  have hv := bgWindow_v hq
  rw [incrementScrollX, scrollIfRendering_v, tickHead_v, tickHead_renderingEnabled] at hv
  refine ⟨?_, ?_, ?_⟩
  · obtain ⟨_, _, _, _, rfl⟩ := bgWindow_frame hq
    exact tickHead_t s
  · obtain ⟨_, _, _, _, rfl⟩ := bgWindow_frame hq
    exact tickHead_renderingEnabled s
  · rw [hv]
    split_ifs <;> tauto

theorem bgScroll_at_257 (sl : Int) (q : State) :
    (bgScroll sl 257 q).regs.v =
      if q.regs.renderingEnabled = true then transferX q.regs.v q.regs.t else q.regs.v := by
  have hscroll : bgScroll sl 257 q = transferAddressX (q.setBg (loadBgShifters q.bg)) := by simp [bgScroll]
  rw [hscroll, transferAddressX, scrollIfRendering_v]
  rfl

theorem bgScroll_at_transferY {c : Nat} (hc : 280 ≤ c ∧ c ≤ 304) (q : State) :
    (bgScroll (-1) c q).regs.v =
      if q.regs.renderingEnabled = true then transferY q.regs.v q.regs.t else q.regs.v := by
  have h256 : c ≠ 256 := by omega
  have h257 : c ≠ 257 := by omega
  have hscroll : bgScroll (-1) c q = transferAddressY q := by simp [bgScroll, h256, h257, hc]
  rw [hscroll, transferAddressY, scrollIfRendering_v]

/-- Without rendering no change of `v` passes its gate (D13). -/
theorem tick_v_of_no_rendering {s t : State} (h : exec .tick s = .next t) (hoff : s.regs.renderingEnabled = false) :
    t.regs.v = s.regs.v := by
  by_cases hline : OnFetchLine s
  · by_cases hx : s.seq.cycle = 257
    · obtain ⟨q, hq, hv⟩ := tick_v_of_fetchLine h hline
      obtain ⟨-, hon, hqv⟩ := bgWindow_regs_of_tick hq
      rw [hv, hx, bgScroll_at_257, hon, hoff, hqv, hoff]
      simp
    · by_cases hy : s.seq.scanline = -1 ∧ 280 ≤ s.seq.cycle ∧ s.seq.cycle ≤ 304
      · obtain ⟨q, hq, hv⟩ := tick_v_of_fetchLine h hline
        obtain ⟨-, hon, hqv⟩ := bgWindow_regs_of_tick hq
        rw [hv, hy.1, bgScroll_at_transferY hy.2, hon, hoff, hqv, hoff]
        simp
      · rw [tick_v_of_no_transfer h hline hx hy, hoff]
        rfl
  · exact tick_v_of_not_fetchLine h hline

/-- Settles O35: at each transfer dot the X increment is off, so the transfer acts on the fields of `v` as they stood. -/
theorem tickTransfersScroll : Obligations.TickTransfersScroll := by
  unfold Obligations.TickTransfersScroll
  intro s a h
  refine ⟨by rw [tick_regs h], fun hline hc hon => ?_, fun hsl hc1 hc2 hon => ?_, tick_v_of_no_rendering h⟩
  · obtain ⟨q, hq, hv⟩ := tick_v_of_fetchLine h hline
    obtain ⟨ht, hren, hqv⟩ := bgWindow_regs_of_tick hq
    rw [if_neg (by omega)] at hqv
    rw [hv, hc, bgScroll_at_257, hren, if_pos hon, hqv, ht, transferX_toNat]
  · obtain ⟨q, hq, hv⟩ := tick_v_of_fetchLine h ⟨hsl.ge, by omega⟩
    obtain ⟨ht, hren, hqv⟩ := bgWindow_regs_of_tick hq
    rw [if_neg (by omega)] at hqv
    rw [hv, hsl, bgScroll_at_transferY ⟨hc1, hc2⟩, hren, if_pos hon, hqv, ht, transferY_toNat]

end Sys2Proof.Machine

/-! ## The sprite line and evaluation over one tick (43_sprites.md R180 to R189) -/

namespace Sys2Proof.Machine
open Sys2Proof.Spec

/-! ### Countdown and shift (R181) -/

section
variable (p : SpriteLine) (i : Fin 8)

theorem updateSpriteShifters_slots : (updateSpriteShifters p).slots[i] =
    if i.val < p.count ∧ (p.slots[i]).x ≠ 0 then { p.slots[i] with x := (p.slots[i]).x - 1 } else p.slots[i] := by
  simp [updateSpriteShifters, activeSlot]

theorem updateSpriteShifters_shifterLo : (updateSpriteShifters p).shifterLo[i] =
    if i.val < p.count ∧ (p.slots[i]).x = 0 then p.shifterLo[i] <<< 1 else p.shifterLo[i] := by
  simp [updateSpriteShifters, activeSlot]

theorem updateSpriteShifters_shifterHi : (updateSpriteShifters p).shifterHi[i] =
    if i.val < p.count ∧ (p.slots[i]).x = 0 then p.shifterHi[i] <<< 1 else p.shifterHi[i] := by
  simp [updateSpriteShifters, activeSlot]

end

theorem shiftLeft_one_toNat (x : Byte) : (x <<< 1).toNat = x.toNat * 2 % 256 := by
  rw [BitVec.toNat_shiftLeft, Nat.shiftLeft_eq]

theorem pred_toNat {x : Byte} (h : x ≠ 0) : (x - 1).toNat = x.toNat - 1 := by
  have hpos : x.toNat ≠ 0 := fun h0 => h (BitVec.eq_of_toNat_eq h0)
  have hx := x.isLt
  have hone : (1 : Byte).toNat = 1 := rfl
  rw [BitVec.toNat_sub, hone]
  omega

/-- The bytes of a slot that the countdown keeps. -/
theorem slotByte_setX (sl : Slot) (x : Byte) {k : Nat} (hk : k < 3) : slotByte { sl with x := x } k = slotByte sl k := by
  interval_cases k <;> rfl

/-- Settles O38: at these dots the sprite line is the updated one, slot by slot. -/
theorem spriteCountdownAndShift : Obligations.SpriteCountdownAndShift := by
  unfold Obligations.SpriteCountdownAndShift
  intro s t h hl hc1 hc2
  have hline : t.spr = { updateSpriteShifters s.spr with zeroBeingRendered := t.spr.zeroBeingRendered } := by
    have hspr := tick_spr_visible h hl (by omega)
    rwa [dotLine, if_pos ⟨hc1, hc2⟩] at hspr
  rw [hline]
  refine ⟨rfl, rfl, fun i => ?_⟩
  dsimp only
  rw [updateSpriteShifters_slots, updateSpriteShifters_shifterLo, updateSpriteShifters_shifterHi]
  have hzero : (s.spr.slots[i]).x = 0 ↔ (s.spr.slots[i]).x.toNat = 0 := BitVec.toNat_eq
  refine ⟨fun k hk => ?_, fun hi => ?_, fun hi => ?_, fun hi hx => ?_, fun hi hx => ?_⟩
  · split
    · exact slotByte_setX _ _ hk
    · rfl
  · simp [hi]
  · by_cases hx : (s.spr.slots[i]).x = 0
    · rw [if_neg fun hc => hc.2 hx, hx]
      rfl
    · rw [if_pos ⟨hi, hx⟩]
      exact pred_toNat hx
  · have hne : ¬ (i.val < s.spr.count ∧ (s.spr.slots[i]).x = 0) := fun hc => by
      rw [hzero.mp hc.2] at hx
      exact absurd hx (by decide)
    rw [if_neg hne, if_neg hne]
    exact ⟨rfl, rfl⟩
  · rw [if_pos ⟨hi, hzero.mpr hx⟩, if_pos ⟨hi, hzero.mpr hx⟩]
    exact ⟨shiftLeft_one_toNat _, shiftLeft_one_toNat _⟩

/-! ### Evaluation: the reads (R182, R183) -/

theorem tick_eval_of_evaluates {s t : State} (h : exec .tick s = .next t) (hl : OnVisibleLine s)
    (hw : EvaluatesAt s.seq.cycle s) :
    t.eval = evalStep s.regs.ctrl s.oam s.seq.scanline s.seq.cycle s.eval := by
  rw [tick_eval h, if_pos hl, dotEval, if_pos hw]

theorem tick_eval_of_idle {s t : State} (h : exec .tick s = .next t)
    (hw : ¬ (OnVisibleLine s ∧ EvaluatesAt s.seq.cycle s)) : t.eval = s.eval := by
  rw [tick_eval h]
  split
  next hl => exact if_neg fun hc => hw ⟨hl, hc⟩
  next => rfl

/-- Settles O41: the cases of one dot of evaluation. -/
theorem evaluationReadsOnOddDots : Obligations.EvaluationReadsOnOddDots := by
  unfold Obligations.EvaluationReadsOnOddDots
  intro s t h hl hc1 hc2
  refine ⟨fun hoff => ?_, fun hon hc => ?_, fun hon hc hodd hd => ?_, fun hon hc hd => ?_⟩
  · exact tick_eval_of_idle h (by simp [hoff])
  · rw [tick_eval_of_evaluates h hl ⟨hc1, hc2, hon⟩, hc, evalStep_at_start]
    rfl
  · rw [tick_eval_of_evaluates h hl ⟨hc1, hc2, hon⟩, evalStep_of_odd hc hd hodd]
  · rw [tick_eval_of_evaluates h hl ⟨hc1, hc2, hon⟩, evalStep_of_done hc hd]

/-! ### Evaluation: the decisions (R184 to R186) -/

theorem inRange_iff (ctrl : Byte) (sl : Int) (y : Byte) : inRange ctrl sl y = true ↔ SpriteOnLine ctrl sl y := by
  simp [inRange]

theorem inRange_eq_false_iff (ctrl : Byte) (sl : Int) (y : Byte) :
    inRange ctrl sl y = false ↔ ¬ SpriteOnLine ctrl sl y := by
  rw [← inRange_iff, Bool.not_eq_true]

section
variable {e : SpriteEval}

theorem evalDecide_overflow_hit (ho : e.overflowMode = true) : evalDecide true e = { e with done := true } := by
  simp [evalDecide, evalDecideOverflow, ho]

theorem evalDecide_overflow_miss (ho : e.overflowMode = true) (hd : e.done = false) :
    evalDecide false e = { e with n := e.n + 1, m := e.m + 1#2, done := decide (e.n + 1 = 64) } := by
  simp [evalDecide, evalDecideOverflow, nextSprite, ho, hd]

theorem evalDecide_y_miss (ho : e.overflowMode = false) (hm : e.m = 0#2) (hd : e.done = false) :
    evalDecide false e = { e with n := e.n + 1, done := decide (e.n + 1 = 64) } := by
  simp [evalDecide, evalDecideY, nextSprite, ho, hm, hd]

theorem evalDecide_y_full (ho : e.overflowMode = false) (hm : e.m = 0#2) (hc : 8 ≤ e.count) :
    evalDecide true e = { e with overflowMode := true } := by
  simp [evalDecide, evalDecideY, ho, hm, hc]

theorem evalDecide_y_hit (ho : e.overflowMode = false) (hm : e.m = 0#2) (hc : e.count < 8) :
    evalDecide true e = { e with
      slots := setSlotByte e.slots e.count e.m e.readLatch, m := 1
      zeroPossible := e.zeroPossible || decide (e.n = 0) } := by
  simp [evalDecide, evalDecideY, ho, hm, hc]

theorem evalDecide_copy (found : Bool) (ho : e.overflowMode = false) (h0 : e.m ≠ 0#2) (h3 : e.m ≠ 3#2) :
    evalDecide found e = { e with slots := setSlotByte e.slots e.count e.m e.readLatch, m := e.m + 1#2 } := by
  simp [evalDecide, evalDecideCopy, ho, h0, h3]

theorem evalDecide_copy_last (found : Bool) (ho : e.overflowMode = false) (h3 : e.m = 3#2) (hd : e.done = false) :
    evalDecide found e = { e with
      slots := setSlotByte e.slots e.count e.m e.readLatch, m := 0, n := e.n + 1, count := e.count + 1
      overflowMode := decide (e.count + 1 = 8), done := decide (e.n + 1 = 64) } := by
  simp [evalDecide, evalDecideCopy, nextSprite, ho, h3, hd]

/-- In normal mode with a free slot, what a decision that stores a byte does to the slots. -/
theorem evalDecide_slots {found : Bool} (ho : e.overflowMode = false) (hc : e.count < 8)
    (hstore : e.m ≠ 0#2 ∨ found = true) :
    (evalDecide found e).slots = setSlotByte e.slots e.count e.m e.readLatch := by
  by_cases hm : e.m = 0#2
  · obtain rfl := hstore.resolve_left (not_not.mpr hm)
    rw [evalDecide_y_hit ho hm hc]
  · simp only [evalDecide, ho, Bool.false_eq_true, if_false, hm, evalDecideCopy]
    split
    · rfl
    · rfl

end

theorem slotByte_setByte (sl : Slot) (m : BitVec 2) (b : Byte) {k : Nat} (hk : k < 4) :
    slotByte (sl.setByte m b) k = if k = m.toNat then b else slotByte sl k := by
  obtain rfl | rfl | rfl | rfl : m = 0#2 ∨ m = 1#2 ∨ m = 2#2 ∨ m = 3#2 := by
    revert m
    decide
  all_goals interval_cases k <;> rfl

theorem slotByte_setSlotByte (v : Vector Slot 8) {c : Nat} (hc : c < 8) (m : BitVec 2) (b : Byte) (j : Fin 8) {k : Nat}
    (hk : k < 4) :
    slotByte (setSlotByte v c m b)[j] k = if j.val = c ∧ k = m.toNat then b else slotByte v[j] k := by
  rw [setSlotByte, dif_pos hc]
  by_cases hj : j.val = c
  · subst hj
    simp [slotByte_setByte _ _ _ hk]
  · have hother : (v.set c (v[c].setByte m b))[j] = v[j] := Vector.getElem_set_ne hc j.isLt (Ne.symm hj)
    rw [hother, if_neg fun h => hj h.1]

theorem bitVecTwo_succ (m : BitVec 2) : m + 1#2 = BitVec.ofNat 2 (m.toNat + 1) := by
  revert m
  decide

theorem bitVecTwo_succ_mod (m : BitVec 2) : m + 1#2 = BitVec.ofNat 2 ((m.toNat + 1) % 4) := by
  revert m
  decide

/-- The overflow bit after a tick of a visible line. -/
theorem tick_overflowBit_visible {s t : State} (h : exec .tick s = .next t) (hl : OnVisibleLine s) :
    bit t.regs.status 5 = true ↔ bit s.regs.status 5 = true ∨
      (EvaluatesAt s.seq.cycle s ∧ findsOverflow s.regs.ctrl s.seq.scanline s.seq.cycle s.eval = true) := by
  have hdot : bit t.regs.status 5 = bit (dotStatus s.seq.scanline s.seq.cycle s) 5 := by
    rcases tick_status_visible h hl with ht | ht
    · rw [ht]
    · rw [ht, bit_setBit_other _ hitBit 5 true (by decide)]
  have hset (x : Byte) : bit (setBit x overflowBit true) 5 = true := bit_setBit_same x 5 true (by decide)
  rw [hdot, dotStatus]
  split_ifs with hw hf
  · simpa [hset, hf] using .inr hw
  · simp [hf]
  · simp [hw]

/-- Settles O42: the cases of a decision, and the overflow bit, which only a hit in overflow mode sets. -/
theorem evaluationDecidesOnEvenDots : Obligations.EvaluationDecidesOnEvenDots := by
  unfold Obligations.EvaluationDecidesOnEvenDots
  intro s t h hl hc1 hc2 heven hon hd
  have hw : EvaluatesAt s.seq.cycle s := ⟨hc1, hc2, hon⟩
  have heval : t.eval = evalDecide (inRange s.regs.ctrl s.seq.scanline s.eval.readLatch) s.eval := by
    rw [tick_eval_of_evaluates h hl hw, evalStep_of_even hd heven]
  have hmiss := inRange_eq_false_iff s.regs.ctrl s.seq.scanline s.eval.readLatch
  have hhit := inRange_iff s.regs.ctrl s.seq.scanline s.eval.readLatch
  refine ⟨?_, fun ho hr => ?_, fun ho hr => ?_, fun ho hm hr => ?_, fun ho hm hc hr => ?_, fun ho hm hc hr => ?_,
    fun ho h0 h3 => ?_, fun ho h3 => ?_, fun ho hc hstore j k hk => ?_⟩
  · rw [tick_overflowBit_visible h hl, findsOverflow_iff, hhit, and_iff_right hw]
    simp only [heven, hd, true_and]
  · rw [heval, hhit.mpr hr, evalDecide_overflow_hit ho]
  · rw [heval, hmiss.mpr hr, evalDecide_overflow_miss ho hd, bitVecTwo_succ_mod]
  · rw [heval, hmiss.mpr hr, evalDecide_y_miss ho hm hd]
  · rw [heval, hhit.mpr hr, evalDecide_y_full ho hm hc]
  · rw [heval, hhit.mpr hr, evalDecide_y_hit ho hm hc]
  · rw [heval, evalDecide_copy _ ho h0 h3, bitVecTwo_succ]
  · rw [heval, evalDecide_copy_last _ ho h3 hd]
  · rw [heval, evalDecide_slots ho hc (hstore.imp_right hhit.mpr), slotByte_setSlotByte _ hc _ _ _ hk]

/-! ### The copy of dot 257 (R189) and the dots without sprite work -/

theorem compose_spr (sl : Int) (c : Nat) (s : State) : (compose sl c s).spr =
    { s.spr with zeroBeingRendered := zeroFlag s.spr (fgPixel s.regs s.spr c) } := by
  unfold compose
  dsimp only
  split
  · rfl
  · rfl

@[simp] theorem dotLine_zeroBeingRendered (c : Nat) (s : State) :
    (dotLine c s).zeroBeingRendered = s.spr.zeroBeingRendered := by
  unfold dotLine
  split_ifs
  · rfl
  · rfl
  · rfl

@[simp] theorem preRenderLine_zeroBeingRendered (s : State) :
    (preRenderLine s).zeroBeingRendered = s.spr.zeroBeingRendered := by
  unfold preRenderLine
  split_ifs
  · rfl
  · rfl

/-- Only the composer writes `sprite_zero_being_rendered`. -/
theorem tick_zeroBeingRendered_of_not_composed {s t : State} (h : exec .tick s = .next t) (hc : ¬ OnComposedDot s) :
    t.spr.zeroBeingRendered = s.spr.zeroBeingRendered := by
  by_cases hl : OnVisibleLine s
  · obtain ⟨q, lo, hi, rfl, -, hspr, -⟩ := tick_visible_fields h hl
    rw [State.setSeq_spr, tickClock_spr, tickCompose_off _ (by omega), hspr, dotLine_zeroBeingRendered]
  · rw [tick_spr_not_visible h hl]
    split
    · exact preRenderLine_zeroBeingRendered s
    · rfl

theorem nametableAddr_toNat (v : VramAddr) : (nametableAddr v).toNat = 0x2000 + v.toNat % 4096 := by
  have low : (nametableAddr v).extractLsb' 0 12 = v.extractLsb' 0 12 := by
    unfold nametableAddr busAddr
    ext i hi
    interval_cases i <;> simp
  have high : (nametableAddr v).extractLsb' 12 2 = 2#2 := by
    unfold nametableAddr busAddr
    ext i hi
    interval_cases i <;> simp
  have low := toNat_field_congr low
  have high : (nametableAddr v).toNat / 2 ^ 12 % 2 ^ 2 = 2 := by rw [← field_toNat, high]; rfl
  have hlt := (nametableAddr v).isLt
  omega

/-- At dot 257 the background fetches a nametable byte, which no cartridge fails. -/
theorem bgDot_at_257_total (sl : Int) (s : State) : ∃ b, bgDot sl 257 s = .ok b := by
  obtain ⟨q, hq⟩ : ∃ q, bgWindow 257 s = .ok q :=
    fetchInto_total (.inr (by rw [nametableAddr_toNat]; omega))
  exact ⟨bgScroll sl 257 q, by rw [bgDot, hq]; rfl⟩

/-- Settles O39: no read of this dot can fail, and its sprite work is the copy. -/
theorem spriteLineCopiedAtDot257 : Obligations.SpriteLineCopiedAtDot257 := by
  unfold Obligations.SpriteLineCopiedAtDot257
  intro s hl hc
  obtain ⟨b, hb⟩ := bgDot_at_257_total s.seq.scanline (tickHead s)
  have hfetch : tickFetch s.seq.scanline s.seq.cycle (tickHead s) = .ok (spriteWork s.seq.scanline 257 b) := by
    rw [tickFetch, if_pos (by omega), hc, hb]
    dsimp only
    rw [if_pos hl.1, spriteDot_of_ne b (by decide)]
  have h := execTick_of_fetch hfetch
  refine ⟨_, h, ?_, tick_eval_of_idle h (by omega)⟩
  have hspr := tick_spr_visible h hl (by omega)
  rwa [tick_zeroBeingRendered_of_not_composed h (by omega), dotLine, if_neg (by omega), if_pos hc] at hspr

/-- Settles O59: away from its dots the sprite line is only composed over, and evaluation stands still. -/
theorem spriteStateStaysOutsideItsDots : Obligations.SpriteStateStaysOutsideItsDots := by
  unfold Obligations.SpriteStateStaysOutsideItsDots
  intro s t h
  refine ⟨fun hline hpre => ?_, fun hline hpre => ?_, tick_zeroBeingRendered_of_not_composed h, tick_eval_of_idle h⟩
  · by_cases hl : OnVisibleLine s
    · have hspr := tick_spr_visible h hl fun hc => hline ⟨hl, .inr hc⟩
      rwa [dotLine, if_neg fun hc => hline ⟨hl, by omega⟩, if_neg fun hc => hline ⟨hl, by omega⟩] at hspr
    · rw [tick_spr_not_visible h hl, if_neg hpre]
  · by_cases hl : OnVisibleLine s
    · obtain ⟨-, hcount, hpossible⟩ := tick_spr_visible_parts h hl
      rw [hpossible, hcount, dotLine, if_neg (c := s.seq.cycle = 257) fun hc => hline ⟨hl, hc⟩]
      split
      · exact ⟨rfl, rfl⟩
      · exact ⟨rfl, rfl⟩
    · rw [tick_spr_not_visible h hl, if_neg hpre]
      exact ⟨rfl, rfl⟩

end Sys2Proof.Machine

/-! ## The invariant of 10_state.md R38, part by part -/

namespace Sys2Proof.Machine
open Sys2Proof.Spec

/-! ### The position -/

theorem exec_keeps_seqInRange {i : Instr} {s t : State} (hs : s.seq.InRange) (h : exec i s = .next t) :
    t.seq.InRange := by
  by_cases hreset : i = .reset
  · subst hreset
    cases h
    exact invariantHoldsAtReset.position
  · by_cases htick : i = .tick
    · subst htick
      exact tick_seq_inRange h hs
    · obtain ⟨hsl, hc⟩ := exec_keeps_position h hreset htick
      rw [Sequencer.InRange, hsl, hc]
      exact hs

/-! ### The copies of register bits -/

/-- The fields that the copies are about. -/
theorem State.CopiesAgree.congr {s t : State} (h : s.CopiesAgree) (hctrl : t.regs.ctrl = s.regs.ctrl)
    (hmask : t.regs.mask = s.regs.mask) (hon : t.regs.renderingEnabled = s.regs.renderingEnabled)
    (hstatus : t.regs.status = s.regs.status) (hnmi : t.nmi = s.nmi) : t.CopiesAgree := by
  rw [State.CopiesAgree, hctrl, hmask, hon, hstatus, hnmi]
  exact h

theorem vblankNmi_copies (n : NmiState) : (vblankNmi n).output = n.output ∧
    (vblankNmi n).occurred = (if n.suppressVblank then n.occurred else true) ∧
    (vblankNmi n).previous = (if n.suppressVblank then n.previous else n.output) := by
  cases h : n.suppressNmi
  · rw [vblankNmi_of_not_suppressNmi h]
    exact ⟨rfl, rfl, rfl⟩
  · rw [vblankNmi_of_suppressNmi h]
    exact ⟨rfl, rfl, rfl⟩

theorem tick_keeps_copies {s t : State} (hs : s.CopiesAgree) (h : exec .tick s = .next t) : t.CopiesAgree := by
  obtain ⟨hon, hout, hocc, hprev⟩ := hs
  have hregs := tick_regs h
  have hvblank := tick_vblankBit h
  have hon' : t.regs.renderingEnabled = renderingOf t.regs.mask := by
    rw [hregs]
    exact hon
  have hctrl : t.regs.ctrl = s.regs.ctrl := by rw [hregs]
  refine ⟨hon', ?_⟩
  rw [vblankBit, hvblank, hctrl]
  by_cases hpre : At s (-1) 1
  · rw [if_pos hpre, tick_nmi_at_preRender h hpre]
    exact ⟨hout, rfl, by simp [nmiLine]⟩
  · rw [if_neg hpre]
    by_cases hv : At s 241 1
    · obtain ⟨hvout, hvocc, hvprev⟩ := vblankNmi_copies (nmiStepped s.nmi)
      rw [tick_nmi_at_vblank h hv, nmiLine, hvout, hvocc, hvprev]
      have hsame : (nmiStepped s.nmi).suppressVblank = s.nmi.suppressVblank := rfl
      cases hsup : s.nmi.suppressVblank
      · simp only [hsame, hsup, Bool.false_eq_true, if_false, Bool.and_true]
        exact ⟨hout, (if_pos ⟨hv, trivial⟩).symm, trivial⟩
      · simp only [hsame, hsup, Bool.true_eq_false, and_false, if_true, if_false]
        exact ⟨hout, hocc, hprev⟩
    · rw [if_neg fun hc => hv hc.1, tick_nmi_elsewhere h hpre hv]
      exact ⟨hout, hocc, hprev⟩

theorem exec_keeps_copies {i : Instr} {s t : State} (hs : s.CopiesAgree) (h : exec i s = .next t) :
    t.CopiesAgree := by
  obtain ⟨hon, hout, hocc, hprev⟩ := hs
  cases i
  case tick => exact tick_keeps_copies ⟨hon, hout, hocc, hprev⟩ h
  case reset =>
    rw [exec_reset, resetState_eq, Host.Outcome.next.injEq] at h
    obtain rfl := h
    exact invariantHoldsAtReset.copies
  case wPpuCtrl d =>
    cases h
    exact ⟨hon, nmiChange_output _, (nmiChange_occurred _).trans hocc,
      (nmiChange_previous _).trans (nmiLine_nmiChange _).symm⟩
  case wPpuMask d =>
    cases h
    exact ⟨rfl, hout, hocc, hprev⟩
  case rPpuStatus =>
    rw [exec_rPpuStatus, Host.Outcome.next.injEq] at h
    obtain rfl := h
    have hrace : (statusRace s.seq s.nmi).output = s.nmi.output := by
      unfold statusRace cancelNmi
      split_ifs <;> rfl
    exact ⟨hon, hrace.trans hout, (bit_setBit_same _ _ _ (by decide)).symm, by simp [nmiLine]⟩
  case nmiAck =>
    cases h
    exact ⟨hon, hout, hocc, hprev⟩
  case wPpuScroll d =>
    obtain ⟨x, fine, latch, rfl⟩ := exec_wPpuScroll_cases h
    exact ⟨hon, hout, hocc, hprev⟩
  case wPpuAddr d =>
    obtain ⟨x, v, latch, rfl⟩ := exec_wPpuAddr_cases h
    exact ⟨hon, hout, hocc, hprev⟩
  case wPpuData d =>
    obtain ⟨v, m, nt, pal, cart, log, rfl⟩ := exec_wPpuData_cases h
    exact ⟨hon, hout, hocc, hprev⟩
  case rPpuData =>
    obtain ⟨v, b, log, m, a, rfl⟩ := exec_rPpuData_frame h
    exact ⟨hon, hout, hocc, hprev⟩
  case dma page bytes =>
    obtain rfl := exec_dma_cases h
    exact ⟨hon, hout, hocc, hprev⟩
  all_goals
    cases h
    exact ⟨hon, hout, hocc, hprev⟩

/-! ### The status bits without a flag -/

theorem statusLow_iff (x : Byte) : x &&& 0x1F#8 = 0#8 ↔ x.toNat % 32 = 0 := by
  rw [BitVec.toNat_eq, BitVec.toNat_and]
  exact (Nat.and_two_pow_sub_one_eq_mod x.toNat 5).congr_left

theorem exec_keeps_statusLow {i : Instr} {s t : State} (hs : s.regs.status &&& 0x1F#8 = 0#8)
    (h : exec i s = .next t) : t.regs.status &&& 0x1F#8 = 0#8 := by
  obtain ⟨-, -, -, -, -, -, -, -, hstatus, -⟩ := onlyTheseOperationsWriteEachPiece i s t h
  by_cases hkeep : t.regs.status = s.regs.status
  · rwa [hkeep]
  · rw [statusLow_iff] at hs ⊢
    obtain rfl | rfl | rfl := hstatus hkeep
    · cases h
      rfl
    · rw [tick_status_low h, hs]
    · rw [exec_rPpuStatus] at h
      cases h
      have hclear := clearVblank_toNat s.regs.status
      dsimp only
      omega

/-! ### The sprites -/

theorem evalReset_inRange (e : SpriteEval) (b : Byte) : ({ evalReset e with readLatch := b } : SpriteEval).InRange := by
  simp [SpriteEval.InRange, evalReset]

theorem evalStep_inRange (ctrl : Byte) (oam : Memory) (sl : Int) (c : Nat) {e : SpriteEval} (he : e.InRange) :
    (evalStep ctrl oam sl c e).InRange := by
  by_cases hc : c = 65
  · rw [hc, evalStep_at_start]
    exact evalReset_inRange e _
  · cases hd : e.done with
    | true =>
      rw [evalStep_of_done hc hd]
      exact he
    | false =>
      rcases Nat.mod_two_eq_zero_or_one c with heven | hodd
      · rw [evalStep_of_even hd heven]
        exact evalDecide_range _ he hd
      · rw [evalStep_of_odd hc hd hodd]
        exact he

theorem exec_keeps_evalRange {i : Instr} {s t : State} (hs : s.eval.InRange) (h : exec i s = .next t) :
    t.eval.InRange := by
  obtain ⟨-, -, -, -, -, -, -, -, -, -, hpipe, -⟩ := onlyTheseOperationsWriteEachPiece i s t h
  by_cases hkeep : t.eval = s.eval
  · rwa [hkeep]
  · obtain rfl | rfl := hpipe (.inr (.inr hkeep))
    · cases h
      exact invariantHoldsAtReset.evalRange
    · rw [tick_eval h, dotEval]
      split_ifs
      · exact evalStep_inRange _ _ _ _ hs
      · exact hs
      · exact hs

theorem exec_keeps_spriteCount {i : Instr} {s t : State} (hs : s.spr.count ≤ 8) (he : s.eval.InRange)
    (h : exec i s = .next t) : t.spr.count ≤ 8 := by
  obtain ⟨-, -, -, -, -, -, -, -, -, -, hpipe, -⟩ := onlyTheseOperationsWriteEachPiece i s t h
  by_cases hkeep : t.spr = s.spr
  · rwa [hkeep]
  · obtain rfl | rfl := hpipe (.inr (.inl hkeep))
    · cases h
      exact Nat.zero_le 8
    · by_cases hl : OnVisibleLine s
      · obtain ⟨-, hcount, -⟩ := tick_spr_visible_parts h hl
        rw [hcount, dotLine]
        split_ifs
        · exact hs
        · exact he.1
        · exact hs
      · rw [tick_spr_not_visible h hl, preRenderLine]
        split_ifs
        · exact Nat.zero_le 8
        · exact hs
        · exact hs

/-! ### The NMI counters -/

theorem vblankNmi_inRange {n : NmiState} (h : n.InRange) : (vblankNmi n).InRange := by
  cases hn : n.suppressNmi
  · rw [vblankNmi_of_not_suppressNmi hn]
    by_cases hedge : n.suppressVblank = false ∧ n.output = true ∧ n.previous = false
    · simp only [if_pos hedge]
      exact ⟨le_refl _, le_refl _, fun _ => Nat.succ_pos 13⟩
    · simp only [if_neg hedge]
      exact h
  · rw [vblankNmi_of_suppressNmi hn]
    exact ⟨Nat.zero_le _, Nat.zero_le _, fun hh => absurd hh (Nat.lt_irrefl 0)⟩

theorem exec_keeps_nmiRange {i : Instr} {s t : State} (hs : s.nmi.InRange) (h : exec i s = .next t) :
    t.nmi.InRange := by
  obtain ⟨-, -, -, -, -, -, -, -, -, hnmi, -⟩ := onlyTheseOperationsWriteEachPiece i s t h
  by_cases hkeep : t.nmi = s.nmi
  · rwa [hkeep]
  · obtain rfl | rfl | rfl | rfl | ⟨d, rfl⟩ := hnmi hkeep
    · cases h
      exact invariantHoldsAtReset.nmiRange
    · have hstep : (nmiStepped s.nmi).InRange := by
        rw [← nmiCounterStep_eq_nmiStepped]
        exact nmiCounterStep_range hs
      by_cases hpre : At s (-1) 1
      · rw [tick_nmi_at_preRender h hpre]
        exact hstep
      · by_cases hv : At s 241 1
        · rw [tick_nmi_at_vblank h hv]
          exact vblankNmi_inRange hstep
        · rw [tick_nmi_elsewhere h hpre hv]
          exact hstep
    · rw [exec_rPpuStatus] at h
      cases h
      have hrace : (statusRace s.seq s.nmi).InRange := by
        unfold statusRace
        split_ifs
        · exact hs
        · exact cancelNmi_range _
        · exact hs
      exact hrace
    · cases h
      exact hs
    · cases h
      exact nmiChange_range (n := { s.nmi with output := bit d 7 }) hs

/-! ### The memories -/

theorem pixelOffset_lt {sl : Int} {c : Nat} (hsl : sl ≤ 239) (hc : c ≤ 256) : pixelOffset sl c + 2 < frameSize := by
  unfold pixelOffset frameSize
  omega

theorem writePixel_wf {m : Memory} (hm : Memory.wf frameSize m = true) {o : Nat} (ho : o + 2 < frameSize) (x : Rgb) :
    Memory.wf frameSize (writePixel m o x) = true :=
  Memory.wf_write (Memory.wf_write (Memory.wf_write hm (by omega)) (by omega)) ho

theorem compose_frame (sl : Int) (c : Nat) (s : State) : (compose sl c s).frame =
    writePixel s.frame (pixelOffset sl c) (rgbOf s.params (paletteResolve s.palette (composedPixel s c))) := by
  unfold compose composedPixel
  dsimp only
  split
  · rfl
  · rfl

theorem tick_keeps_frameWf {s t : State} (hs : Memory.wf frameSize s.frame = true) (h : exec .tick s = .next t) :
    Memory.wf frameSize t.frame = true := by
  by_cases hl : OnVisibleLine s
  · obtain ⟨q, _, _, rfl, -, -, -, -, hframe, -⟩ := tick_visible_fields h hl
    rw [State.setSeq_frame, tickClock_frame]
    unfold tickCompose
    split
    · rw [compose_frame, hframe]
      exact writePixel_wf hs (pixelOffset_lt (by omega) (by omega)) _
    · rwa [hframe]
  · rwa [tick_frame_not_visible h hl]

theorem tick_keeps_cartWf {s t : State} (hs : s.cart.memoryWf = true) (h : exec .tick s = .next t) :
    t.cart.memoryWf = true := by
  cases hc : s.cart with
  | testT0 board =>
    rw [tick_cart_of_testT0 h hc]
    rw [hc] at hs
    exact hs
  | mapper id =>
    rw [tick_cart_of_mapper h hc]
    rfl

theorem cartPpuWrite_wf {s : State} (hs : s.cart.memoryWf = true) (a : PatternAddr) (b : Byte) :
    (cartPpuWrite a b s).cart.memoryWf = true := by
  cases hc : s.cart with
  | testT0 board =>
    rw [hc] at hs
    rw [cartPpuWrite_of_testT0 hc]
    exact Memory.wf_write hs a.isLt
  | mapper id =>
    rw [cartPpuWrite_of_mapper hc]
    rfl

theorem ppuWrite_keeps_memories {s : State} (hs : s.MemoriesWf) (a : BusAddr) (b : Byte) :
    (ppuWrite a b s).MemoriesWf := by
  obtain ⟨hnametable, hoam, hframe, hcart⟩ := hs
  by_cases h1 : a.toNat < 0x2000
  · have hkeep : ∃ c log, ppuWrite a b s = { s with cart := c, cartLog := log } := by
      obtain ⟨c, log, -, hw⟩ | ⟨h2, -⟩ | ⟨h2, -⟩ := ppuWrite_cases a b s
      · exact ⟨c, log, hw⟩
      · omega
      · omega
    obtain ⟨c, log, hw⟩ := hkeep
    have hwf := cartPpuWrite_wf hcart (a.setWidth 13) b
    rw [← ppuWrite_of_pattern b s h1, hw] at hwf
    rw [hw]
    exact ⟨hnametable, hoam, hframe, hwf⟩
  · by_cases h2 : a.toNat < 0x3F00
    · have hw : ppuWrite a b s = (queryMirroring s).setNametable
          (Memory.write (queryMirroring s).nametable (nametableCell (queryMirroring s).mir.cached a) b) := by
        rw [ppuWrite, if_neg h1, if_pos h2]
      obtain ⟨log, m, hq⟩ := queryMirroring_same s
      rw [hw, hq]
      exact ⟨Memory.wf_write hnametable (nametableCell_lt _ _), hoam, hframe, hcart⟩
    · rw [ppuWrite_of_palette b s (by omega)]
      exact ⟨hnametable, hoam, hframe, hcart⟩

theorem exec_keeps_memories {i : Instr} {s t : State} (hs : s.MemoriesWf) (h : exec i s = .next t) :
    t.MemoriesWf := by
  obtain ⟨hnametable, hoam, hframe, hcart⟩ := hs
  cases i
  case tick =>
    obtain ⟨hnt, -, ho, -⟩ := tick_memories h
    exact ⟨hnt ▸ hnametable, ho ▸ hoam, tick_keeps_frameWf hframe h, tick_keeps_cartWf hcart h⟩
  case wPpuData d =>
    obtain rfl : stepVram (ppuWrite (busAddr s.regs.v) d s) = t := by simpa [exec, execWPpuData] using h
    exact ppuWrite_keeps_memories ⟨hnametable, hoam, hframe, hcart⟩ _ d
  case wOamData d =>
    cases h
    exact ⟨hnametable, Memory.wf_write hoam s.regs.oamAddr.isLt, hframe, hcart⟩
  case dma page bytes =>
    obtain rfl := exec_dma_cases h
    exact ⟨hnametable, oamBurst_wf _ _ hoam, hframe, hcart⟩
  case rPpuData =>
    obtain ⟨v, b, log, m, a, rfl⟩ := exec_rPpuData_frame h
    exact ⟨hnametable, hoam, hframe, hcart⟩
  case wPpuScroll d =>
    obtain ⟨x, fine, latch, rfl⟩ := exec_wPpuScroll_cases h
    exact ⟨hnametable, hoam, hframe, hcart⟩
  case wPpuAddr d =>
    obtain ⟨x, v, latch, rfl⟩ := exec_wPpuAddr_cases h
    exact ⟨hnametable, hoam, hframe, hcart⟩
  all_goals
    cases h
    exact ⟨hnametable, hoam, hframe, hcart⟩

theorem exec_keeps_inv {i : Instr} {s t : State} (hs : Inv s) (h : exec i s = .next t) : Inv t where
  position := exec_keeps_seqInRange hs.position h
  copies := exec_keeps_copies hs.copies h
  statusLow := exec_keeps_statusLow hs.statusLow h
  evalRange := exec_keeps_evalRange hs.evalRange h
  spriteCount := exec_keeps_spriteCount hs.spriteCount hs.evalRange h
  nmiRange := exec_keeps_nmiRange hs.nmiRange h
  memories := exec_keeps_memories hs.memories h

/-- The invariant does not speak of the pending stimuli. -/
theorem Inv.of_stimuli {s : State} (hs : Inv s) (rest : List Stimulus) : Inv { s with stimuli := rest } where
  position := hs.position
  copies := hs.copies
  statusLow := hs.statusLow
  evalRange := hs.evalRange
  spriteCount := hs.spriteCount
  nmiRange := hs.nmiRange
  memories := hs.memories

/-- Settles O56: every operation keeps every part of the invariant. -/
theorem invariantKeptByEveryStep : Obligations.InvariantKeptByEveryStep := by
  unfold Obligations.InvariantKeptByEveryStep
  intro s t hs h
  obtain rfl | ⟨i, rest, hi⟩ := step_cases h
  · exact hs
  · exact exec_keeps_inv (hs.of_stimuli rest) hi

end Sys2Proof.Machine

/-! ## The register bits without a function (10_state.md R11, R12; 44_compositor.md R207)

`withBits c m` replaces `ctrl` and `mask`. Where the new bytes agree with the old ones in the used bits, every part of
every operation commutes with it. -/

namespace Sys2Proof.Machine
open Sys2Proof.Spec

/-- `s` with other bytes in `ctrl` and `mask`. -/
def withBits (c m : Byte) (s : State) : State := { s with regs := { s.regs with ctrl := c, mask := m } }

/-- The used bits of `c` and `m` are those of `ctrl` and `mask`. -/
def UsedBitsAgree (c m : Byte) (s : State) : Prop :=
  c &&& 0xBC#8 = s.regs.ctrl &&& 0xBC#8 ∧ m &&& 0x1E#8 = s.regs.mask &&& 0x1E#8

theorem sameUsedBits_iff {s t : State} : SameUsedBits s t ↔ ∃ c m, UsedBitsAgree c m s ∧ t = withBits c m s :=
  ⟨fun ⟨c, m, ht, hc, hm⟩ => ⟨c, m, ⟨hc, hm⟩, ht⟩, fun ⟨c, m, ⟨hc, hm⟩, ht⟩ => ⟨c, m, ht, hc, hm⟩⟩

theorem SameUsedBits.refl (s : State) : SameUsedBits s s := ⟨s.regs.ctrl, s.regs.mask, rfl, rfl, rfl⟩

theorem UsedBitsAgree.congr {c m : Byte} {s t : State} (h : UsedBitsAgree c m s) (hctrl : t.regs.ctrl = s.regs.ctrl)
    (hmask : t.regs.mask = s.regs.mask) : UsedBitsAgree c m t := by
  rw [UsedBitsAgree, hctrl, hmask]
  exact h

/-- Bytes that agree under a mask agree in each of its bits. -/
theorem bit_eq_of_and_eq {x y mask : Byte} (h : x &&& mask = y &&& mask) {k : Nat} (hk : bit mask k = true) :
    bit x k = bit y k := by
  have hbit : (x &&& mask).getLsbD k = (y &&& mask).getLsbD k := by rw [h]
  unfold bit at hk ⊢
  simpa [hk] using hbit

section
variable {c m : Byte} {s : State} (h : UsedBitsAgree c m s)
include h

theorem UsedBitsAgree.ctrl2 : bit c 2 = bit s.regs.ctrl 2 := bit_eq_of_and_eq h.1 rfl
theorem UsedBitsAgree.ctrl3 : bit c 3 = bit s.regs.ctrl 3 := bit_eq_of_and_eq h.1 rfl
theorem UsedBitsAgree.ctrl4 : bit c 4 = bit s.regs.ctrl 4 := bit_eq_of_and_eq h.1 rfl
theorem UsedBitsAgree.ctrl5 : bit c 5 = bit s.regs.ctrl 5 := bit_eq_of_and_eq h.1 rfl
theorem UsedBitsAgree.mask1 : bit m 1 = bit s.regs.mask 1 := bit_eq_of_and_eq h.2 rfl
theorem UsedBitsAgree.mask2 : bit m 2 = bit s.regs.mask 2 := bit_eq_of_and_eq h.2 rfl
theorem UsedBitsAgree.mask3 : bit m 3 = bit s.regs.mask 3 := bit_eq_of_and_eq h.2 rfl
theorem UsedBitsAgree.mask4 : bit m 4 = bit s.regs.mask 4 := bit_eq_of_and_eq h.2 rfl

end

section
variable (c m : Byte)

/-! ### The state operations and the bus -/

theorem queryMirroring_withBits (s : State) : queryMirroring (withBits c m s) = withBits c m (queryMirroring s) := by
  have hanswer : cartMirroringAnswer (withBits c m s) = cartMirroringAnswer s := cartMirroringAnswer_congr rfl rfl
  unfold queryMirroring
  by_cases hd : s.mir.dynamic = true
  · rw [if_pos (by exact hd), if_pos hd, hanswer]
    cases cartMirroringAnswer s with
    | none => rfl
    | some mode => rfl
  · rw [if_neg (by exact hd), if_neg hd]

theorem cartPpuRead_withBits (a : PatternAddr) (s : State) :
    cartPpuRead a (withBits c m s) = (cartPpuRead a s).map (Prod.map id (withBits c m)) := by
  have hanswer : cartReadAnswer (withBits c m s) a = cartReadAnswer s a := cartReadAnswer_congr rfl rfl a
  unfold cartPpuRead
  rw [hanswer]
  cases cartReadAnswer s a with
  | none => rfl
  | some b => rfl

theorem ppuRead_withBits (a : BusAddr) (s : State) :
    ppuRead a (withBits c m s) = (ppuRead a s).map (Prod.map id (withBits c m)) := by
  unfold ppuRead
  rw [cartPpuRead_withBits, queryMirroring_withBits]
  split
  · rfl
  · split
    · rfl
    · rfl

theorem ppuWrite_withBits (a : BusAddr) (b : Byte) (s : State) :
    ppuWrite a b (withBits c m s) = withBits c m (ppuWrite a b s) := by
  unfold ppuWrite
  rw [queryMirroring_withBits]
  split
  · unfold cartPpuWrite
    cases hc : s.cart with
    | testT0 board => simp only [withBits, hc]; rfl
    | mapper id => simp only [withBits, hc]; rfl
  · split
    · rfl
    · rfl

/-- A rendering fetch commutes when what it does with its byte does. -/
theorem fetchInto_withBits (a : BusAddr) {k k' : Byte → State → State} (s : State)
    (hk : ∀ b q, k' b (withBits c m q) = withBits c m (k b q)) :
    fetchInto a k' (withBits c m s) = (fetchInto a k s).map (withBits c m) := by
  unfold fetchInto
  rw [ppuRead_withBits]
  cases ppuRead a s with
  | error f => rfl
  | ok r => exact congrArg Except.ok (hk r.1 r.2)

/-! ### The parts of a tick that look at no used bit -/

theorem tickHead_withBits (s : State) : tickHead (withBits c m s) = withBits c m (tickHead s) := by
  by_cases hpre : At s (-1) 1
  · rw [tickHead_of_preRender hpre, tickHead_of_preRender (s := withBits c m s) hpre]
    rfl
  · rw [tickHead_of_not_preRender hpre, tickHead_of_not_preRender (s := withBits c m s) hpre]
    rfl

theorem scrollIfRendering_withBits (f : VramAddr → VramAddr) (s : State) :
    scrollIfRendering f (withBits c m s) = withBits c m (scrollIfRendering f s) := by
  unfold scrollIfRendering
  by_cases hon : s.regs.renderingEnabled = true
  · rw [if_pos (by exact hon), if_pos hon]
    rfl
  · rw [if_neg (by exact hon), if_neg hon]

theorem shiftIfRendering_withBits (s : State) :
    shiftIfRendering (withBits c m s) = withBits c m (shiftIfRendering s) := by
  unfold shiftIfRendering
  by_cases hon : s.regs.renderingEnabled = true
  · rw [if_pos (by exact hon), if_pos hon]
    rfl
  · rw [if_neg (by exact hon), if_neg hon]

/-- A conditional step commutes when the step does. -/
theorem ite_withBits {p : Prop} [Decidable p] {f : State → State} {s : State}
    (hf : f (withBits c m s) = withBits c m (f s)) :
    (if p then f (withBits c m s) else withBits c m s) = withBits c m (if p then f s else s) := by
  split
  · exact hf
  · rfl

theorem bgScroll_withBits (sl : Int) (dot : Nat) (s : State) :
    bgScroll sl dot (withBits c m s) = withBits c m (bgScroll sl dot s) := by
  have hx (q : State) : transferAddressX ((withBits c m q).setBg (loadBgShifters (withBits c m q).bg)) =
      withBits c m (transferAddressX (q.setBg (loadBgShifters q.bg))) :=
    scrollIfRendering_withBits c m _ (q.setBg (loadBgShifters q.bg))
  unfold bgScroll
  dsimp only
  rw [ite_withBits c m (f := incrementScrollY) (scrollIfRendering_withBits c m _ s),
    ite_withBits c m (f := fun q => transferAddressX (q.setBg (loadBgShifters q.bg))) (hx _),
    ite_withBits c m (f := transferAddressY) (scrollIfRendering_withBits c m _ _)]

theorem bgDummy_withBits (dot : Nat) (s : State) :
    bgDummy dot (withBits c m s) = (bgDummy dot s).map (withBits c m) := by
  unfold bgDummy
  split
  · exact fetchInto_withBits c m _ s fun _ _ => rfl
  · rfl

theorem tickVblank_withBits (sl : Int) (dot : Nat) (s : State) :
    tickVblank sl dot (withBits c m s) = withBits c m (tickVblank sl dot s) := by
  refine ite_withBits c m ?_
  rw [vblankStart_eq, vblankStart_eq]
  rfl

theorem tickClock_withBits (sl : Int) (dot : Nat) (s : State) :
    tickClock sl dot (withBits c m s) = withBits c m (tickClock sl dot s) := by
  refine ite_withBits c m (p := s.regs.renderingEnabled = true ∧ dot = 260 ∧ 0 ≤ sl ∧ sl ≤ 239) ?_
  unfold cartClockScanline
  cases hc : s.cart with
  | testT0 board => simp only [withBits, hc]; rfl
  | mapper id => simp only [withBits, hc]; rfl

theorem tickLatch_withBits (sl : Int) (dot : Nat) (s : State) :
    tickLatch sl dot (withBits c m s) = withBits c m (tickLatch sl dot s) :=
  ite_withBits c m (f := fun q => q.setSeq { q.seq with oddSkipLatch := q.regs.renderingEnabled }) rfl

/-! ### The parts that look at used bits -/

variable {c m}
variable {s : State}

theorem bgPatternAddr_withBits (h : UsedBitsAgree c m s) (tile : Byte) (v : VramAddr) :
    bgPatternAddr c tile v = bgPatternAddr s.regs.ctrl tile v := by
  rw [bgPatternAddr, bgPatternAddr, h.ctrl4]

theorem fetchPatternLow_withBits (h : UsedBitsAgree c m s) :
    fetchPatternLow (withBits c m s) = (fetchPatternLow s).map (withBits c m) := by
  have haddr := bgPatternAddr_withBits h s.bg.nextTileId s.regs.v
  unfold fetchPatternLow
  rw [← haddr]
  exact fetchInto_withBits c m _ s fun _ _ => rfl

theorem fetchPatternHigh_withBits (h : UsedBitsAgree c m s) :
    fetchPatternHigh (withBits c m s) = (fetchPatternHigh s).map (withBits c m) := by
  have haddr := bgPatternAddr_withBits h s.bg.nextTileId s.regs.v
  unfold fetchPatternHigh
  rw [← haddr]
  exact fetchInto_withBits c m _ s fun _ _ => rfl

theorem bgPhase_withBits (h : UsedBitsAgree c m s) (dot : Nat) :
    bgPhase dot (withBits c m s) = (bgPhase dot s).map (withBits c m) := by
  unfold bgPhase
  split
  · exact fetchInto_withBits c m _ (s.setBg (loadBgShifters s.bg)) fun _ _ => rfl
  · exact fetchInto_withBits c m _ s fun _ _ => rfl
  · exact fetchPatternLow_withBits h
  · exact fetchPatternHigh_withBits h
  · exact congrArg Except.ok (scrollIfRendering_withBits c m _ s)
  · rfl

theorem bgWindow_withBits (h : UsedBitsAgree c m s) (dot : Nat) :
    bgWindow dot (withBits c m s) = (bgWindow dot s).map (withBits c m) := by
  unfold bgWindow
  rw [shiftIfRendering_withBits, bgPhase_withBits (h.congr (by simp) (by simp))]
  split
  · rfl
  · rfl

theorem bgDot_withBits (h : UsedBitsAgree c m s) (sl : Int) (dot : Nat) :
    bgDot sl dot (withBits c m s) = (bgDot sl dot s).map (withBits c m) := by
  unfold bgDot
  rw [bgWindow_withBits h]
  cases bgWindow dot s with
  | error f => rfl
  | ok q =>
    simp only [Except.map]
    rw [bgScroll_withBits]
    exact bgDummy_withBits c m dot _

theorem inRange_withBits (h : UsedBitsAgree c m s) : inRange c = inRange s.regs.ctrl := by
  funext sl b
  rw [inRange, inRange, h.ctrl5]

theorem spriteWork_withBits (h : UsedBitsAgree c m s) (sl : Int) (dot : Nat) :
    spriteWork sl dot (withBits c m s) = withBits c m (spriteWork sl dot s) := by
  have hstep : evalStep c = evalStep s.regs.ctrl := by
    funext oam sl dot e
    rw [evalStep, evalStep, inRange_withBits h]
  have hfind : findsOverflow c = findsOverflow s.regs.ctrl := by
    funext sl dot e
    rw [findsOverflow, findsOverflow, inRange_withBits h]
  have heval : dotEval sl dot (withBits c m s) = dotEval sl dot s := by
    unfold dotEval withBits
    rw [hstep]
  have hstatus : dotStatus sl dot (withBits c m s) = dotStatus sl dot s := by
    unfold dotStatus withBits
    rw [hfind]
  rw [spriteWork_eq, spriteWork_eq, heval, hstatus]
  rfl

theorem spriteAddr_withBits (h : UsedBitsAgree c m s) : spriteAddr c = spriteAddr s.regs.ctrl := by
  funext tile row
  rw [spriteAddr, spriteAddr, spriteAddr8, spriteAddr8, h.ctrl5, h.ctrl3]

theorem spriteHeight_withBits (h : UsedBitsAgree c m s) : spriteHeight c = spriteHeight s.regs.ctrl := by
  rw [spriteHeight, spriteHeight, h.ctrl5]

theorem fetchSlotPatterns_withBits (h : UsedBitsAgree c m s) (sl : Int) (i : Fin 8) :
    fetchSlotPatterns sl i (withBits c m s) = (fetchSlotPatterns sl i s).map (withBits c m) := by
  have hctrl : (withBits c m s).regs.ctrl = c := rfl
  have hspr : (withBits c m s).spr = s.spr := rfl
  unfold fetchSlotPatterns
  simp only [hctrl, hspr, spriteAddr_withBits h, spriteHeight_withBits h, ppuRead_withBits]
  cases ppuRead (busOfInt (spriteAddr s.regs.ctrl s.spr.slots[i].tile
      (spriteRow (spriteHeight s.regs.ctrl) sl s.spr.slots[i].y s.spr.slots[i].attr))) s with
  | error f => rfl
  | ok lo =>
    simp only [Except.map, Prod.map, id]
    rw [ppuRead_withBits]
    cases ppuRead (busOfInt (spriteAddr s.regs.ctrl s.spr.slots[i].tile
        (spriteRow (spriteHeight s.regs.ctrl) sl s.spr.slots[i].y s.spr.slots[i].attr) + 8)) lo.2 with
    | error f => rfl
    | ok hi => rfl

theorem fetchSlots_withBits (h : UsedBitsAgree c m s) (sl : Int) (l : List (Fin 8)) :
    fetchSlots sl l (withBits c m s) = (fetchSlots sl l s).map (withBits c m) := by
  induction l generalizing s with
  | nil => rfl
  | cons i l ih =>
    have hspr : (withBits c m s).spr = s.spr := rfl
    simp only [fetchSlots, hspr, fetchSlotPatterns_withBits h]
    split
    · cases hq : fetchSlotPatterns sl i s with
      | error f => rfl
      | ok q =>
        obtain ⟨st, p, e, log, mir, -, rfl⟩ := fetchSlotPatterns_frame hq
        exact ih (h.congr rfl rfl)
    · exact ih h

theorem spriteDot_withBits (h : UsedBitsAgree c m s) (sl : Int) (dot : Nat) :
    spriteDot sl dot (withBits c m s) = (spriteDot sl dot s).map (withBits c m) := by
  by_cases hdot : dot = 340
  · rw [hdot, spriteDot_at_fetch, spriteDot_at_fetch]
    exact fetchSlots_withBits h sl allSlots
  · rw [spriteDot_of_ne _ hdot, spriteDot_of_ne _ hdot, spriteWork_withBits h]
    rfl

theorem tickFetch_withBits (h : UsedBitsAgree c m s) (sl : Int) (dot : Nat) :
    tickFetch sl dot (withBits c m s) = (tickFetch sl dot s).map (withBits c m) := by
  unfold tickFetch
  rw [bgDot_withBits h]
  split
  · cases hq : bgDot sl dot s with
    | error f => rfl
    | ok q =>
      have hq : UsedBitsAgree c m q := by
        obtain ⟨v, bg, log, mir, rfl⟩ := bgDot_frame hq
        exact h.congr rfl rfl
      simp only [Except.map]
      rw [spriteDot_withBits hq]
      split
      · rfl
      · rfl
  · rfl

theorem compose_withBits (h : UsedBitsAgree c m s) (sl : Int) (dot : Nat) :
    compose sl dot (withBits c m s) = withBits c m (compose sl dot s) := by
  have hbg : bgPixel (withBits c m s).regs s.bg dot = bgPixel s.regs s.bg dot := by
    unfold bgPixel withBits
    dsimp only
    rw [h.mask1, h.mask3]
  have hfg : fgPixel (withBits c m s).regs s.spr dot = fgPixel s.regs s.spr dot := by
    unfold fgPixel withBits
    dsimp only
    rw [h.mask2, h.mask4]
  have hhit : spriteZeroHit (withBits c m s).regs = spriteZeroHit s.regs := by
    funext possible rendered dot bg fg
    unfold spriteZeroHit withBits
    dsimp only
    rw [h.mask1, h.mask2, h.mask3, h.mask4]
  have hspr : (withBits c m s).spr = s.spr := rfl
  have hpipe : (withBits c m s).bg = s.bg := rfl
  simp only [compose, hspr, hpipe, hbg, hfg, hhit]
  split
  · rfl
  · rfl

theorem tickCompose_withBits (h : UsedBitsAgree c m s) (sl : Int) (dot : Nat) :
    tickCompose sl dot (withBits c m s) = withBits c m (tickCompose sl dot s) :=
  ite_withBits c m (compose_withBits h sl dot)

theorem tickTail_withBits (h : UsedBitsAgree c m s) (sl : Int) (dot : Nat) :
    tickTail sl dot (withBits c m s) = withBits c m (tickTail sl dot s) := by
  unfold tickTail
  rw [tickVblank_withBits, tickCompose_withBits (h.congr (by simp) (by simp)), tickClock_withBits,
    tickLatch_withBits]
  rfl

theorem tickDot_withBits (h : UsedBitsAgree c m s) :
    tickDot (withBits c m s) = (tickDot s).map (withBits c m) := by
  have hhead : UsedBitsAgree c m (tickHead s) := h.congr (tickHead_ctrl s) (tickHead_mask s)
  have hseq : (withBits c m s).seq = s.seq := rfl
  unfold tickDot
  rw [tickHead_withBits, hseq, tickFetch_withBits hhead]
  cases hq : tickFetch s.seq.scanline s.seq.cycle (tickHead s) with
  | error f => rfl
  | ok q =>
    have hregs := tickFetch_regs hq
    exact congrArg Except.ok (tickTail_withBits (hhead.congr (by rw [hregs]) (by rw [hregs])) _ _)

/-! ### The operations -/

theorem stepVram_withBits (h : UsedBitsAgree c m s) : stepVram (withBits c m s) = withBits c m (stepVram s) := by
  unfold stepVram vramStep withBits
  dsimp only
  rw [h.ctrl2]
  rfl

theorem finishDataRead_withBits (h : UsedBitsAgree c m s) (r b : Byte) :
    finishDataRead r b (withBits c m s) = withBits c m (finishDataRead r b s) := by
  have hstep := stepVram_withBits (s := s.setRegs { s.regs with ppuDataBuffer := b }) (h.congr rfl rfl)
  exact congrArg (fun q => q.setAnswer (.byte r)) hstep

/-- The end of a read, as a fetch whose state has the registers of `s`. -/
theorem fetchInto_finishDataRead_withBits (h : UsedBitsAgree c m s) (a : BusAddr) (r : Byte) :
    fetchInto a (finishDataRead r) (withBits c m s) = (fetchInto a (finishDataRead r) s).map (withBits c m) := by
  unfold fetchInto
  rw [ppuRead_withBits]
  cases hq : ppuRead a s with
  | error f => rfl
  | ok q =>
    have hregs := (ppuRead_same (b := q.1) (t := q.2) hq).regs_eq
    exact congrArg Except.ok (finishDataRead_withBits (h.congr (by rw [hregs]) (by rw [hregs])) r q.1)

theorem readDataPalette_withBits (h : UsedBitsAgree c m s) :
    readDataPalette (withBits c m s) = (readDataPalette s).map (withBits c m) := by
  have hv : (withBits c m s).regs.v = s.regs.v := rfl
  unfold readDataPalette
  rw [hv, ppuRead_withBits]
  cases hq : ppuRead (busAddr s.regs.v) s with
  | error f => rfl
  | ok q =>
    have hregs := (ppuRead_same (b := q.1) (t := q.2) hq).regs_eq
    exact fetchInto_finishDataRead_withBits (h.congr (by rw [hregs]) (by rw [hregs])) _ q.1

end

/-- The outcome of a procedure that commutes with the change of bits and keeps `ctrl` and `mask`. -/
theorem outcomesAgree_of_map {c m : Byte} {s : State} (h : UsedBitsAgree c m s) {r r' : Except Fault State}
    (hmap : r' = r.map (withBits c m))
    (hkeep : ∀ t, r = .ok t → t.regs.ctrl = s.regs.ctrl ∧ t.regs.mask = s.regs.mask) :
    OutcomesAgree SameUsedBits (outcomeOf r) (outcomeOf r') := by
  subst hmap
  cases r with
  | error f => rfl
  | ok t =>
    obtain ⟨hctrl, hmask⟩ := hkeep t rfl
    exact sameUsedBits_iff.mpr ⟨c, m, h.congr hctrl hmask, rfl⟩

theorem exec_withBits (i : Instr) {c m : Byte} {s : State} (h : UsedBitsAgree c m s) :
    OutcomesAgree SameUsedBits (exec i s) (exec i (withBits c m s)) := by
  have keeps {t : State} (hctrl : t.regs.ctrl = s.regs.ctrl) (hmask : t.regs.mask = s.regs.mask) :
      OutcomesAgree SameUsedBits (.next t) (.next (withBits c m t)) :=
    sameUsedBits_iff.mpr ⟨c, m, h.congr hctrl hmask, rfl⟩
  cases i
  case wPpuCtrl d => exact ⟨d, m, rfl, rfl, h.2⟩
  case wPpuMask d => exact ⟨c, d, rfl, h.1, rfl⟩
  case tick =>
    refine outcomesAgree_of_map h (tickDot_withBits h) fun t ht => ?_
    rw [tick_regs (execTick_next.mpr ht)]
    exact ⟨rfl, rfl⟩
  case reset =>
    have hanswer : cartMirroringAnswer (withBits c m s) = cartMirroringAnswer s := cartMirroringAnswer_congr rfl rfl
    have hsame : exec .reset (withBits c m s) = exec .reset s := by
      rw [exec_reset, exec_reset, resetState_eq, resetState_eq, mirrorFromQuery, mirrorFromQuery, hanswer]
      rfl
    rw [hsame]
    exact SameUsedBits.refl _
  case wPpuScroll d =>
    cases hl : s.regs.addressLatch with
    | false =>
      rw [exec_wPpuScroll_first d hl, exec_wPpuScroll_first (s := withBits c m s) d hl]
      exact keeps rfl rfl
    | true =>
      rw [exec_wPpuScroll_second d hl, exec_wPpuScroll_second (s := withBits c m s) d hl]
      exact keeps rfl rfl
  case wPpuAddr d =>
    cases hl : s.regs.addressLatch with
    | false =>
      rw [exec_wPpuAddr_first d hl, exec_wPpuAddr_first (s := withBits c m s) d hl]
      exact keeps rfl rfl
    | true =>
      rw [exec_wPpuAddr_second d hl, exec_wPpuAddr_second (s := withBits c m s) d hl]
      exact keeps rfl rfl
  case wPpuData d =>
    have hstore : exec (.wPpuData d) (withBits c m s) =
        .next (withBits c m (stepVram (ppuWrite (busAddr s.regs.v) d s))) := by
      rw [← stepVram_withBits (h.congr (by simp) (by simp)), ← ppuWrite_withBits]
      rfl
    rw [hstore]
    exact keeps (t := stepVram (ppuWrite (busAddr s.regs.v) d s)) (by simp [stepVram]) (by simp [stepVram])
  case rPpuData =>
    have hread : (if 0x3F00 ≤ (busAddr s.regs.v).toNat then readDataPalette (withBits c m s)
        else readDataBuffered (withBits c m s)) =
        (if 0x3F00 ≤ (busAddr s.regs.v).toNat then readDataPalette s else readDataBuffered s).map
          (withBits c m) := by
      rw [readDataPalette_withBits h, readDataBuffered, readDataBuffered]
      split
      · rfl
      · exact fetchInto_finishDataRead_withBits h _ _
    refine outcomesAgree_of_map h hread fun t ht => ?_
    obtain ⟨v, b, log, mir, a, rfl⟩ := exec_rPpuData_frame (outcomeOf_eq_next.mpr ht)
    exact ⟨rfl, rfl⟩
  case dma page bytes =>
    by_cases hlen : bytes.length = 256
    · rw [exec_dma page s hlen, exec_dma page (withBits c m s) hlen]
      exact keeps rfl rfl
    · rw [exec_dma_of_other_length page s hlen, exec_dma_of_other_length page (withBits c m s) hlen]
      rfl
  all_goals exact keeps rfl rfl

/-- Settles O49: every part of every operation commutes with the change of the unused bits. -/
theorem unusedRegisterBitsHaveNoEffect : Obligations.UnusedRegisterBitsHaveNoEffect := by
  unfold Obligations.UnusedRegisterBitsHaveNoEffect
  intro s t hst
  obtain ⟨c, m, h, rfl⟩ := sameUsedBits_iff.mp hst
  cases hs : s.stimuli with
  | nil =>
    rw [step_of_no_stimulus hs, step_of_no_stimulus (s := withBits c m s) hs]
    exact hst
  | cons st rest =>
    cases hd : decode st with
    | ok i =>
      rw [step_of_decode hs hd, step_of_decode (s := withBits c m s) hs hd]
      exact exec_withBits i (s := { s with stimuli := rest }) (h.congr rfl rfl)
    | error e =>
      rw [step_of_decode_error hs hd, step_of_decode_error (s := withBits c m s) hs hd]
      rfl

end Sys2Proof.Machine

/-! ## The background's dot in the numbers of the spec (42_background_pipeline.md R160 to R167, R174) -/

namespace Sys2Proof.Machine
open Sys2Proof.Spec

/-! ### Bus reads: the model's and the spec's -/

/-- The bus and the cartridge stand alike in `s` and `t`. -/
def SameBus (s t : State) : Prop :=
  t.cart = s.cart ∧ t.cartLog = s.cartLog ∧ t.mir = s.mir ∧ t.nametable = s.nametable ∧ t.palette = s.palette

theorem SameBus.refl (s : State) : SameBus s s := ⟨rfl, rfl, rfl, rfl, rfl⟩

theorem SameBus.trans {s t u : State} (h : SameBus s t) (k : SameBus t u) : SameBus s u := by
  obtain ⟨h1, h2, h3, h4, h5⟩ := h
  obtain ⟨k1, k2, k3, k4, k5⟩ := k
  exact ⟨k1.trans h1, k2.trans h2, k3.trans h3, k4.trans h4, k5.trans h5⟩

theorem queried_congr {s t : State} (h : SameBus s t) : SameBus (queried s) (queried t) := by
  obtain ⟨hcart, hlog, hmir, hnametable, hpalette⟩ := h
  unfold queried
  rw [hcart, hlog, hmir]
  split
  · exact ⟨rfl, rfl, rfl, hnametable, hpalette⟩
  · exact ⟨hcart, hlog, hmir, hnametable, hpalette⟩

/-- A read of the pattern region asks the cartridge (R64). -/
theorem busRead_of_pattern (s : State) {a : Nat} (ha : a < 0x2000) :
    busRead s a = (cartReadAnswer s (BitVec.ofNat 13 a)).map
      fun b => (b, s.setCart s.cart (.ppuRead (BitVec.ofNat 13 a))) := by
  have hnum : (BitVec.ofNat 13 a).toNat = a := by
    rw [BitVec.toNat_ofNat]
    omega
  rw [busRead, if_pos ha]
  unfold cartReadAnswer
  rw [hnum]
  cases s.cart with
  | testT0 board => rfl
  | mapper id => rfl

theorem busRead_of_nametable (s : State) {a : Nat} (h1 : 0x2000 ≤ a) (h2 : a < 0x3F00) :
    busRead s a = some (Memory.read s.nametable (nametableByte (queried s).mir.cached a), queried s) := by
  rw [busRead, if_neg (by omega), if_pos h2]

theorem busRead_of_palette (s : State) {a : Nat} (h : 0x3F00 ≤ a) :
    busRead s a = some (BitVec.ofNat 8 (paletteEntry s.palette (paletteIndex a)), s) := by
  rw [busRead, if_neg (by omega), if_neg (by omega)]

/-- A bus read gives the same byte where the bus stands alike, and leaves it alike. -/
theorem busRead_congr {s t : State} (h : SameBus s t) (a : Nat) :
    (busRead s a = none → busRead t a = none) ∧
      ∀ b q, busRead s a = some (b, q) → ∃ q', busRead t a = some (b, q') ∧ SameBus q q' := by
  have hq := queried_congr h
  have ⟨_, _, hmode, _, _⟩ := hq
  have hbus := h
  obtain ⟨hcart, hlog, hmir, hnametable, hpalette⟩ := h
  by_cases h1 : a < 0x2000
  · rw [busRead_of_pattern s h1, busRead_of_pattern t h1, cartReadAnswer_congr hcart hlog]
    cases cartReadAnswer s (BitVec.ofNat 13 a) with
    | none => simp
    | some x =>
      refine ⟨by simp, fun b q hsome => ?_⟩
      rw [Option.map_some, Option.some.injEq, Prod.mk.injEq] at hsome
      obtain ⟨rfl, rfl⟩ := hsome
      refine ⟨_, Option.map_some .., hcart, ?_, hmir, hnametable, hpalette⟩
      rw [State.setCart_cartLog, State.setCart_cartLog, hlog]
  · by_cases h2 : a < 0x3F00
    · rw [busRead_of_nametable s (by omega) h2, busRead_of_nametable t (by omega) h2, hnametable, hmode]
      refine ⟨nofun, fun b q hsome => ?_⟩
      cases hsome
      exact ⟨_, rfl, hq⟩
    · rw [busRead_of_palette s (by omega), busRead_of_palette t (by omega), hpalette]
      refine ⟨nofun, fun b q hsome => ?_⟩
      cases hsome
      exact ⟨_, rfl, hbus⟩

/-- The model's bus read is the spec's. -/
theorem ppuRead_eq_busRead (a : BusAddr) (s : State) :
    ppuRead a s = match busRead s a.toNat with
      | some r => .ok r
      | none => .error .mapperFault := by
  by_cases h1 : a.toNat < 0x2000
  · have haddr : a.setWidth 13 = BitVec.ofNat 13 a.toNat := by
      apply BitVec.eq_of_toNat_eq
      rw [BitVec.toNat_setWidth, BitVec.toNat_ofNat]
    rw [ppuRead_of_pattern s h1, haddr, busRead_of_pattern s h1]
    cases hb : cartReadAnswer s (BitVec.ofNat 13 a.toNat) with
    | none => exact cartPpuRead_of_failure hb
    | some b => exact cartPpuRead_of_answer hb
  · by_cases h2 : a.toNat < 0x3F00
    · rw [busRead_of_nametable s (by omega) h2, ppuRead_of_nametable s (by omega) h2, queryMirroring_nametable,
        queryMirroring_eq_queried]
    · rw [busRead_of_palette s (by omega), ppuRead_of_palette s (by omega)]

theorem busRead_of_ppuRead {a : BusAddr} {s q : State} {b : Byte} (h : ppuRead a s = .ok (b, q)) :
    busRead s a.toNat = some (b, q) := by
  rw [ppuRead_eq_busRead] at h
  cases hr : busRead s a.toNat with
  | none => rw [hr] at h; cases h
  | some r => rw [hr] at h; cases h; rfl

/-- The byte of a read where the bus stands as in `s`. -/
theorem busRead_byte_of_ppuRead {s u q : State} (hu : SameBus s u) {a : BusAddr} {b : Byte}
    (h : ppuRead a u = .ok (b, q)) : (busRead s a.toNat).map Prod.fst = some b := by
  have hread := busRead_of_ppuRead h
  cases hs : busRead s a.toNat with
  | none =>
    rw [(busRead_congr hu _).1 hs] at hread
    cases hread
  | some r =>
    obtain ⟨q', hq', -⟩ := (busRead_congr hu _).2 r.1 r.2 hs
    rw [hread] at hq'
    cases hq'
    rfl

theorem busRead_nametable_byte {s : State} {a : Nat} (h1 : 0x2000 ≤ a) (h2 : a < 0x3F00) :
    (busRead s a).map Prod.fst = some (Memory.read s.nametable (nametableByte (queried s).mir.cached a)) := by
  rw [busRead_of_nametable s h1 h2]
  rfl

/-! ### The fetch addresses as numbers (30_encoding.md R100 to R102) -/

theorem nametableAddr_toNat_eq (s : State) : (nametableAddr s.regs.v).toNat = nametableFetch s :=
  nametableAddr_toNat s.regs.v

theorem attributeAddr_toNat (s : State) : (attributeAddr s.regs.v).toNat = attributeFetch s := by
  have hsplit (a : Nat) (ha : a < 16384) :
      a = a / 4096 % 4 * 4096 + a / 1024 % 4 * 1024 + a / 64 % 16 * 64 + a / 8 % 8 * 8 + a % 8 := by omega
  generalize hv : s.regs.v = v
  have coarseX : (attributeAddr v).extractLsb' 0 3 = v.extractLsb' 2 3 := by
    unfold attributeAddr busAddr
    ext i hi
    interval_cases i <;> simp
  have coarseY : (attributeAddr v).extractLsb' 3 3 = v.extractLsb' 7 3 := by
    unfold attributeAddr busAddr
    ext i hi
    interval_cases i <;> simp
  have fixed : (attributeAddr v).extractLsb' 6 4 = 15#4 := by
    unfold attributeAddr busAddr
    ext i hi
    interval_cases i <;> simp
  have nt : (attributeAddr v).extractLsb' 10 2 = v.extractLsb' 10 2 := by
    unfold attributeAddr busAddr
    ext i hi
    interval_cases i <;> simp
  have region : (attributeAddr v).extractLsb' 12 2 = 2#2 := by
    unfold attributeAddr busAddr
    ext i hi
    interval_cases i <;> simp
  have coarseX := toNat_field_congr coarseX
  have coarseY := toNat_field_congr coarseY
  have nt := toNat_field_congr nt
  have fixed : (attributeAddr v).toNat / 2 ^ 6 % 2 ^ 4 = 15 := by rw [← field_toNat, fixed]; rfl
  have region : (attributeAddr v).toNat / 2 ^ 12 % 2 ^ 2 = 2 := by rw [← field_toNat, region]; rfl
  have hlt := (attributeAddr v).isLt
  simp only [Nat.reducePow, Nat.div_one] at coarseX coarseY nt fixed region
  rw [hsplit _ hlt, coarseX, coarseY, nt, fixed, region, attributeFetch, hv]
  omega

theorem bgPatternAddr_toNat (s : State) :
    (bgPatternAddr s.regs.ctrl s.bg.nextTileId s.regs.v).toNat = patternFetch s := by
  have htile := s.bg.nextTileId.isLt
  have hv := s.regs.v.isLt
  have hrow : (s.bg.nextTileId.setWidth 14 <<< 4).toNat = s.bg.nextTileId.toNat * 16 := by
    rw [BitVec.toNat_shiftLeft, BitVec.toNat_setWidth, Nat.shiftLeft_eq]
    omega
  have hfine : ((fineY s.regs.v).setWidth 14).toNat = s.regs.v.toNat / 4096 := by
    rw [BitVec.toNat_setWidth, fineY_toNat]
    omega
  have htable : (if bit s.regs.ctrl 4 then 0x1000#14 else 0#14).toNat = if bit s.regs.ctrl 4 then 4096 else 0 := by
    split
    · rfl
    · rfl
  rw [bgPatternAddr, patternFetch, BitVec.toNat_add, BitVec.toNat_add, hrow, hfine, htable]
  split <;> omega

theorem patternFetch_lt (s : State) : patternFetch s + 8 < 0x2000 + 8 := by
  have htile := s.bg.nextTileId.isLt
  have hv := s.regs.v.isLt
  unfold patternFetch
  split <;> omega

theorem bgPatternAddrHigh_toNat (s : State) :
    (bgPatternAddr s.regs.ctrl s.bg.nextTileId s.regs.v + 8#14).toNat = patternFetch s + 8 := by
  have hlt := patternFetch_lt s
  rw [BitVec.toNat_add, bgPatternAddr_toNat, BitVec.toNat_ofNat]
  omega

/-! ### The shifters as numbers -/

theorem loadLow_toNat (x : BitVec 16) (b : Byte) : (loadLow x b).toNat = x.toNat / 256 * 256 + b.toNat := by
  have low : (loadLow x b).extractLsb' 0 8 = b.extractLsb' 0 8 := by
    unfold loadLow
    ext i hi
    interval_cases i <;> simp
  have high : (loadLow x b).extractLsb' 8 8 = x.extractLsb' 8 8 := by
    unfold loadLow
    ext i hi
    interval_cases i <;> simp
  have low := toNat_field_congr low
  have high := toNat_field_congr high
  have hb := b.isLt
  have hlt := (loadLow x b).isLt
  omega

theorem laneLow_toNat : ∀ a : BitVec 2, (lane (bit a 0)).toNat = a.toNat % 2 * 255 := by decide

theorem laneHigh_toNat : ∀ a : BitVec 2, (lane (bit a 1)).toNat = a.toNat / 2 * 255 := by decide

/-- One shifter over one dot of the window. -/
theorem shifterAfter_eq {x y : BitVec 16} {b : Byte} {on : Bool} {load : Prop} [Decidable load]
    (h : y = if load then loadLow (if on then x <<< 1 else x) b else if on then x <<< 1 else x) :
    y.toNat = shifterAfter (on = true) load x.toNat b.toNat := by
  have hshift : (if on = true then x <<< 1 else x).toNat = if on = true then x.toNat * 2 % 65536 else x.toNat := by
    split
    · rw [BitVec.toNat_shiftLeft, Nat.shiftLeft_eq]
    · rfl
  subst h
  unfold shifterAfter
  dsimp only
  by_cases hload : load
  · rw [if_pos hload, if_pos hload, loadLow_toNat, hshift]
  · rw [if_neg hload, if_neg hload, hshift]

/-! ### The pipeline after a tick -/

/-- On a fetch line the pipeline after a tick is what the window's work and the load of dot 257 leave. -/
theorem tick_bg_of_fetchLine {s t : State} (h : exec .tick s = .next t) (hline : OnFetchLine s) :
    ∃ q, bgWindow s.seq.cycle (tickHead s) = .ok q ∧
      t.bg = if s.seq.cycle = 257 then loadBgShifters q.bg else q.bg := by
  have scroll_bg (f : VramAddr → VramAddr) (q : State) : (scrollIfRendering f q).bg = q.bg := by
    unfold scrollIfRendering
    split <;> rfl
  have hscroll (q : State) : (bgScroll s.seq.scanline s.seq.cycle q).bg =
      if s.seq.cycle = 257 then loadBgShifters q.bg else q.bg := by
    unfold bgScroll
    dsimp only
    by_cases hc : s.seq.cycle = 257
    · rw [if_neg (by omega), if_pos hc, if_neg (by omega), if_pos hc, transferAddressX, scroll_bg, State.setBg_bg]
    · rw [if_neg (c := s.seq.cycle = 257) hc, if_neg (c := s.seq.cycle = 257) hc]
      split_ifs <;> simp only [transferAddressY, incrementScrollY, scroll_bg]
  obtain ⟨r, hfetch, rfl⟩ := execTick_cases h
  rw [tickFetch, if_pos hline] at hfetch
  split at hfetch
  next => cases hfetch
  next b hb =>
    obtain ⟨q, hq, hdummy⟩ := bgDot_cases hb
    refine ⟨q, hq, ?_⟩
    have hbg : b.bg = (bgScroll s.seq.scanline s.seq.cycle q).bg := by
      obtain ⟨_, _, hb⟩ := bgDummy_frame hdummy
      rw [hb]
    rw [tickTail_bg, ← hscroll, ← hbg]
    split at hfetch
    · obtain ⟨_, _, _, _, _, _, rfl⟩ := spriteDot_frame hfetch
      rfl
    · cases hfetch
      rfl

theorem tick_bg_of_not_fetchLine {s t : State} (h : exec .tick s = .next t) (hline : ¬ OnFetchLine s) :
    t.bg = s.bg := by
  rw [execTick_of_not_fetchLine hline, Host.Outcome.next.injEq] at h
  rw [← h, tickTail_bg, tickHead_bg]

/-- Loading the shifters twice is loading them once. -/
theorem loadLow_loadLow (x : BitVec 16) (b : Byte) : loadLow (loadLow x b) b = loadLow x b := by
  apply BitVec.eq_of_toNat_eq
  have hb := b.isLt
  rw [loadLow_toNat, loadLow_toNat]
  omega

/-- The gated shift of a dot of the window. -/
def shiftedBg (s : State) : BgPipe := if s.regs.renderingEnabled then shiftBg s.bg else s.bg

/-- The pipeline after phase `c % 8` of the window, with the byte its fetch brings. -/
def phaseBg (c : Nat) (s : State) (b : Byte) : BgPipe :=
  let p := shiftedBg s
  if c % 8 = 1 then { loadBgShifters p with nextTileId := b }
  else if c % 8 = 3 then { p with nextTileAttr := attributeBits s.regs.v b }
  else if c % 8 = 5 then { p with nextTileLsb := b }
  else if c % 8 = 7 then { p with nextTileMsb := b }
  else p

/-- The address that phase `c % 8` of the window reads. -/
def phaseRead (c : Nat) (s : State) : Nat :=
  if c % 8 = 1 then nametableFetch s
  else if c % 8 = 3 then attributeFetch s
  else if c % 8 = 5 then patternFetch s
  else patternFetch s + 8

theorem shiftIfRendering_eq (s : State) : shiftIfRendering s = s.setBg (shiftedBg s) := by
  unfold shiftIfRendering shiftedBg
  split
  · rfl
  · rfl

/-- The shift keeps the latches. -/
theorem shiftedBg_latches (s : State) : (shiftedBg s).nextTileId = s.bg.nextTileId ∧
    (shiftedBg s).nextTileAttr = s.bg.nextTileAttr ∧ (shiftedBg s).nextTileLsb = s.bg.nextTileLsb ∧
    (shiftedBg s).nextTileMsb = s.bg.nextTileMsb := by
  unfold shiftedBg
  split
  · exact ⟨rfl, rfl, rfl, rfl⟩
  · exact ⟨rfl, rfl, rfl, rfl⟩

/-- A fetch from a state that differs from `s` in the pipeline: the byte that `s` would read goes in by `f`. -/
theorem fetchInto_setBg {a : BusAddr} {k : Byte → State → State} {s q : State} {p : BgPipe}
    (h : fetchInto a k (s.setBg p) = .ok q) (f : Byte → BgPipe) (hf : ∀ b r, r.bg = p → (k b r).bg = f b) :
    ∃ b, q.bg = f b ∧ (busRead s a.toNat).map Prod.fst = some b := by
  obtain ⟨b, r, hr, rfl⟩ := fetchInto_cases h
  have hbg : r.bg = p := by
    obtain ⟨_, _, hrest⟩ := ppuRead_same hr
    rw [hrest]
    rfl
  have hbus : SameBus s (s.setBg p) := ⟨rfl, rfl, rfl, rfl, rfl⟩
  exact ⟨b, hf b r hbg, busRead_byte_of_ppuRead hbus hr⟩

/-- A dot of the window brings the byte of its address, by phase. -/
theorem bgPhase_bg {c : Nat} (hc : 1 ≤ c) {s q : State} (h : bgPhase c (shiftIfRendering s) = .ok q) :
    ∃ b, q.bg = phaseBg c s b ∧ (c % 2 = 1 → (busRead s (phaseRead c s)).map Prod.fst = some b) := by
  have hid := (shiftedBg_latches s).1
  have hlow := bgPatternAddr_toNat s
  have hhigh := bgPatternAddrHigh_toNat s
  rw [← hid] at hlow hhigh
  rw [shiftIfRendering_eq] at h
  unfold bgPhase at h
  split at h
  next hphase =>
    have h8 : c % 8 = 1 := by omega
    obtain ⟨b, hbg, hread⟩ := fetchInto_setBg (s := s) (p := loadBgShifters (shiftedBg s)) h
      (fun b => { loadBgShifters (shiftedBg s) with nextTileId := b }) fun b r hr => by rw [← hr]; rfl
    rw [State.setBg_setBg, State.setBg_regs, nametableAddr_toNat_eq] at hread
    exact ⟨b, by simp [phaseBg, h8, hbg], fun _ => by rwa [phaseRead, if_pos h8]⟩
  next hphase =>
    have h8 : c % 8 = 3 := by omega
    obtain ⟨b, hbg, hread⟩ := fetchInto_setBg h
      (fun b => { shiftedBg s with nextTileAttr := attributeBits s.regs.v b }) fun b r hr => by rw [← hr]; rfl
    rw [State.setBg_regs, attributeAddr_toNat] at hread
    exact ⟨b, by simp [phaseBg, h8, hbg], fun _ => by rwa [phaseRead, if_neg (by omega), if_pos h8]⟩
  next hphase =>
    have h8 : c % 8 = 5 := by omega
    obtain ⟨b, hbg, hread⟩ := fetchInto_setBg h
      (fun b => { shiftedBg s with nextTileLsb := b }) fun b r hr => by rw [← hr]; rfl
    rw [State.setBg_regs, State.setBg_bg, hlow] at hread
    exact ⟨b, by simp [phaseBg, h8, hbg], fun _ => by
      rwa [phaseRead, if_neg (by omega), if_neg (by omega), if_pos h8]⟩
  next hphase =>
    have h8 : c % 8 = 7 := by omega
    obtain ⟨b, hbg, hread⟩ := fetchInto_setBg h
      (fun b => { shiftedBg s with nextTileMsb := b }) fun b r hr => by rw [← hr]; rfl
    rw [State.setBg_regs, State.setBg_bg, hhigh] at hread
    exact ⟨b, by simp [phaseBg, h8, hbg], fun _ => by
      rwa [phaseRead, if_neg (by omega), if_neg (by omega), if_neg (by omega)]⟩
  next hphase =>
    have h8 : c % 8 = 0 := by omega
    cases h
    have hscroll (r : State) : (incrementScrollX r).bg = r.bg := by
      unfold incrementScrollX scrollIfRendering
      split
      · rfl
      · rfl
    exact ⟨0, by simp [phaseBg, h8, hscroll], by omega⟩
  next h0 h2 h4 h6 h7 =>
    cases h
    have h1 : c % 8 ≠ 1 := fun h8 => h0 (by omega)
    have h3 : c % 8 ≠ 3 := fun h8 => h2 (by omega)
    have h5 : c % 8 ≠ 5 := fun h8 => h4 (by omega)
    have h7 : c % 8 ≠ 7 := fun h8 => h6 (by omega)
    exact ⟨0, by simp [phaseBg, h1, h3, h5, h7], by omega⟩

/-- The pipeline after a tick of a dot of the window. -/
theorem tick_bg_in_window {s t : State} (h : exec .tick s = .next t) (hline : OnFetchLine s)
    (hw : InWindow s.seq.cycle) : ∃ b, t.bg = phaseBg s.seq.cycle s b ∧
      (s.seq.cycle % 2 = 1 → (busRead s (phaseRead s.seq.cycle s)).map Prod.fst = some b) := by
  obtain ⟨q, hq, ht⟩ := tick_bg_of_fetchLine h hline
  rw [bgWindow, if_pos ((bgActive_iff _).mpr hw)] at hq
  obtain ⟨b, hbg, hread⟩ := bgPhase_bg (by omega) hq
  have hhead : ∃ st n p, tickHead s = { s with regs := { s.regs with status := st }, nmi := n, spr := p } := by
    by_cases hpre : At s (-1) 1
    · exact ⟨_, _, _, tickHead_of_preRender hpre⟩
    · exact ⟨_, _, _, tickHead_of_not_preRender hpre⟩
  obtain ⟨st, n, p, hhead⟩ := hhead
  have hphase : phaseBg s.seq.cycle (tickHead s) b = phaseBg s.seq.cycle s b := by rw [hhead]; rfl
  have haddr : phaseRead s.seq.cycle (tickHead s) = phaseRead s.seq.cycle s := by rw [hhead]; rfl
  have hbus (a : Nat) : (busRead (tickHead s) a).map Prod.fst = (busRead s a).map Prod.fst := by
    have hsame : SameBus s (tickHead s) := by rw [hhead]; exact ⟨rfl, rfl, rfl, rfl, rfl⟩
    cases hs : busRead s a with
    | none => rw [(busRead_congr hsame a).1 hs]
    | some r =>
      obtain ⟨q', hq', -⟩ := (busRead_congr hsame a).2 r.1 r.2 hs
      rw [hq']
      rfl
  refine ⟨b, ?_, fun hodd => ?_⟩
  · rw [ht, hbg, hphase]
    split
    next hc =>
      have h8 : s.seq.cycle % 8 = 1 := by omega
      simp only [phaseBg, h8, if_true, loadBgShifters, loadLow_loadLow]
    next => rfl
  · rw [← hbus, ← haddr]
    exact hread hodd

/-- The pipeline is still outside the window. -/
theorem tick_bg_off_window {s t : State} (h : exec .tick s = .next t)
    (hw : ¬ (OnFetchLine s ∧ InWindow s.seq.cycle)) : t.bg = s.bg := by
  by_cases hline : OnFetchLine s
  · obtain ⟨q, hq, ht⟩ := tick_bg_of_fetchLine h hline
    have hc : ¬ InWindow s.seq.cycle := fun hc => hw ⟨hline, hc⟩
    rw [bgWindow, if_neg ((bgActive_iff _).not.mpr hc)] at hq
    cases hq
    rw [ht, if_neg (by omega), tickHead_bg]
  · exact tick_bg_of_not_fetchLine h hline

/-! ### The shifters (R161, R167) -/

/-- The shifters of the pipeline after a phase. -/
theorem phaseBg_shifters (c : Nat) (s : State) (b : Byte) :
    (phaseBg c s b).patternLo = (if c % 8 = 1 then loadBgShifters (shiftedBg s) else shiftedBg s).patternLo ∧
    (phaseBg c s b).patternHi = (if c % 8 = 1 then loadBgShifters (shiftedBg s) else shiftedBg s).patternHi ∧
    (phaseBg c s b).attrLo = (if c % 8 = 1 then loadBgShifters (shiftedBg s) else shiftedBg s).attrLo ∧
    (phaseBg c s b).attrHi = (if c % 8 = 1 then loadBgShifters (shiftedBg s) else shiftedBg s).attrHi := by
  unfold phaseBg
  dsimp only
  split_ifs
  all_goals exact ⟨rfl, rfl, rfl, rfl⟩

/-- Settles O36: each shifter is shifted by the gate and loaded by the phase. -/
theorem backgroundShiftersShiftAndLoad : Obligations.BackgroundShiftersShiftAndLoad := by
  unfold Obligations.BackgroundShiftersShiftAndLoad
  intro s t h
  refine ⟨fun hw => ?_, fun hline hw => ?_⟩
  · rw [tick_bg_off_window h hw]
    exact ⟨rfl, rfl, rfl, rfl⟩
  · obtain ⟨b, hbg, -⟩ := tick_bg_in_window h hline hw
    obtain ⟨hlo, hhi, halo, hahi⟩ := phaseBg_shifters s.seq.cycle s b
    obtain ⟨-, hattr, hlsb, hmsb⟩ := shiftedBg_latches s
    rw [hbg, hlo, hhi, halo, hahi, ← laneLow_toNat, ← laneHigh_toNat]
    refine ⟨shifterAfter_eq ?_, shifterAfter_eq ?_, shifterAfter_eq ?_, shifterAfter_eq ?_⟩
    all_goals
      cases hon : s.regs.renderingEnabled <;> split <;> simp [shiftedBg, hon, loadBgShifters, shiftBg]

/-! ### The latches (R162 to R165) -/

theorem attributeBits_toNat (v : VramAddr) (a : Byte) :
    (attributeBits v a).toNat = a.toNat / 2 ^ (4 * (v.toNat / 64 % 2) + 2 * (v.toNat / 2 % 2)) % 4 := by
  have hbit (k : Nat) (mask : VramAddr) (hk : mask = BitVec.twoPow 15 k) (hlt : k < 15) :
      v &&& mask ≠ 0#15 ↔ v.toNat / 2 ^ k % 2 = 1 := by
    rw [hk, BitVec.and_twoPow]
    have htest : v.getLsbD k = decide (v.toNat / 2 ^ k % 2 = 1) := by
      rw [BitVec.getLsbD, Nat.testBit_eq_decide_div_mod_eq]
    cases hb : v.getLsbD k with
    | false =>
      rw [hb] at htest
      simpa using htest.symm
    | true =>
      rw [hb] at htest
      have hne : BitVec.twoPow 15 k ≠ 0#15 := by
        interval_cases k <;> decide
      simpa [hne] using htest.symm
  have hy := hbit 6 0x0040#15 rfl (by decide)
  have hx := hbit 1 0x0002#15 rfl (by decide)
  have hy2 : v.toNat / 64 % 2 = 0 ∨ v.toNat / 64 % 2 = 1 := Nat.mod_two_eq_zero_or_one _
  have hx2 : v.toNat / 2 % 2 = 0 ∨ v.toNat / 2 % 2 = 1 := Nat.mod_two_eq_zero_or_one _
  unfold attributeBits
  simp only [hy, hx, Nat.reducePow]
  rcases hy2 with hy2 | hy2 <;> rcases hx2 with hx2 | hx2 <;>
    simp [hy2, hx2, BitVec.toNat_setWidth, BitVec.toNat_ushiftRight, Nat.shiftRight_eq_div_pow]

/-- Settles O37: each phase replaces its one latch by the byte of its address. -/
theorem backgroundFetchesFillLatches : Obligations.BackgroundFetchesFillLatches := by
  unfold Obligations.BackgroundFetchesFillLatches
  intro s t h
  refine ⟨fun hw => ?_, fun hline hw => ?_⟩
  · rw [tick_bg_off_window h hw]
    exact ⟨rfl, rfl, rfl, rfl⟩
  · obtain ⟨b, hbg, hread⟩ := tick_bg_in_window h hline hw
    obtain ⟨hid, hattr, hlsb, hmsb⟩ := shiftedBg_latches s
    have hv := s.regs.v.isLt
    rw [hbg]
    refine ⟨fun hc => ?_, fun hc => ?_, fun hc => ?_, fun hc => ?_, fun hc => ?_, fun hc => ?_, fun hc => ?_,
      fun hc => ?_⟩
    · simp only [phaseBg, if_neg hc]
      split_ifs <;> exact hid
    · have hbyte := hread (by omega)
      rw [phaseRead, if_pos hc, busRead_nametable_byte (by unfold nametableFetch; omega) (by unfold nametableFetch; omega),
        Option.some.injEq] at hbyte
      simp only [phaseBg, if_pos hc, hbyte]
    · simp only [phaseBg, if_neg hc]
      split_ifs <;> exact hattr
    · have hbyte := hread (by omega)
      rw [phaseRead, if_neg (by omega), if_pos hc, busRead_nametable_byte (by unfold attributeFetch; omega)
        (by unfold attributeFetch; omega), Option.some.injEq] at hbyte
      simp only [phaseBg, if_pos hc, hbyte]
      rw [if_neg (by omega)]
      simp only [attributeBits_toNat]
    · simp only [phaseBg, if_neg hc]
      split_ifs <;> exact hlsb
    · have hbyte := hread (by omega)
      rw [phaseRead, if_neg (by omega), if_neg (by omega), if_pos hc] at hbyte
      simp only [phaseBg, if_pos hc, hbyte]
      rw [if_neg (by omega), if_neg (by omega)]
    · simp only [phaseBg, if_neg hc]
      split_ifs <;> exact hmsb
    · have hbyte := hread (by omega)
      rw [phaseRead, if_neg (by omega), if_neg (by omega), if_neg (by omega)] at hbyte
      simp only [phaseBg, if_pos hc, hbyte]
      rw [if_neg (by omega), if_neg (by omega), if_neg (by omega)]

end Sys2Proof.Machine

/-! ## The bus reads of a tick (45_frame_driver.md R218, 42_background_pipeline.md, 43_sprites.md R190) -/

namespace Sys2Proof.Machine
open Sys2Proof.Spec

/-! ### Procedures that make a list of reads -/

/-- The procedure `r`, begun where the bus stands as in `u`, makes the reads `l` in order: it faults where one of them
fails, and otherwise answers a state whose bus stands as they leave it and that meets `P` of their bytes. -/
def MakesReads (u : State) (l : List Nat) (r : Except Fault State) (P : List Byte → State → Prop) : Prop :=
  (busReads u l = none → r = .error .mapperFault) ∧
    ∀ bytes q, busReads u l = some (bytes, q) → ∃ t, r = .ok t ∧ SameBus q t ∧ P bytes t

theorem busReads_cons (u : State) (a : Nat) (l : List Nat) : busReads u (a :: l) =
    (busRead u a).bind fun r => (busReads r.2 l).map fun p => (r.1 :: p.1, p.2) := by
  rw [busReads]
  cases busRead u a with
  | none => rfl
  | some r =>
    simp only [Option.bind_some]
    cases busReads r.2 l with
    | none => rfl
    | some p => rfl

theorem busReads_append (u : State) (l l' : List Nat) : busReads u (l ++ l') =
    (busReads u l).bind fun r => (busReads r.2 l').map fun p => (r.1 ++ p.1, p.2) := by
  induction l generalizing u with
  | nil =>
    rw [List.nil_append, busReads, Option.bind_some]
    cases busReads u l' with
    | none => rfl
    | some p => rfl
  | cons a l ih =>
    rw [List.cons_append, busReads_cons, busReads_cons]
    cases busRead u a with
    | none => rfl
    | some r =>
      simp only [Option.bind_some, ih]
      cases busReads r.2 l with
      | none => rfl
      | some p =>
        simp only [Option.bind_some, Option.map_some]
        cases busReads p.2 l' with
        | none => rfl
        | some p' => rfl

theorem length_of_busReads {l : List Nat} {u q : State} {bytes : List Byte} (h : busReads u l = some (bytes, q)) :
    bytes.length = l.length := by
  induction l generalizing u bytes with
  | nil => cases h; rfl
  | cons a l ih =>
    rw [busReads_cons, Option.bind_eq_some_iff] at h
    obtain ⟨r, -, h⟩ := h
    rw [Option.map_eq_some_iff] at h
    obtain ⟨p, hp, hpair⟩ := h
    cases hpair
    rw [List.length_cons, List.length_cons, ih hp]

section
variable {u : State} {l l' : List Nat} {r : Except Fault State} {P Q : List Byte → State → Prop}

theorem MakesReads.mono (h : MakesReads u l r P) (hPQ : ∀ bytes t, P bytes t → Q bytes t) : MakesReads u l r Q := by
  refine ⟨h.1, fun bytes q hread => ?_⟩
  obtain ⟨t, ht, hbus, hP⟩ := h.2 bytes q hread
  exact ⟨t, ht, hbus, hPQ bytes t hP⟩

/-- No read. -/
theorem makesReads_ok {t : State} (hbus : SameBus u t) (hP : P [] t) : MakesReads u [] (.ok t) P := by
  refine ⟨nofun, fun bytes q hread => ?_⟩
  cases hread
  exact ⟨t, rfl, hbus, hP⟩

/-- The reads of two procedures in sequence. -/
theorem MakesReads.bind {g : State → Except Fault State} (h : MakesReads u l r P)
    (hg : ∀ bytes q t, SameBus q t → P bytes t → MakesReads q l' (g t) fun bs x => Q (bytes ++ bs) x) :
    MakesReads u (l ++ l') (r.bind g) Q := by
  unfold MakesReads
  rw [busReads_append]
  cases hread : busReads u l with
  | none =>
    rw [h.1 hread]
    exact ⟨fun _ => rfl, by simp⟩
  | some p =>
    obtain ⟨t, rfl, hbus, hP⟩ := h.2 p.1 p.2 hread
    obtain ⟨hnone, hsome⟩ := hg p.1 p.2 t hbus hP
    refine ⟨fun hfail => ?_, fun bytes q hok => ?_⟩
    · exact hnone (by simpa using hfail)
    · simp only [Option.bind_some, Option.map_eq_some_iff, Prod.mk.injEq] at hok
      obtain ⟨p', hp', rfl, rfl⟩ := hok
      exact hsome p'.1 p'.2 hp'

/-- A procedure followed by a step that leaves the bus alone. -/
theorem MakesReads.map {f : State → State} (h : MakesReads u l r P) (hbus : ∀ t, SameBus t (f t))
    (hP : ∀ bytes t, P bytes t → Q bytes (f t)) : MakesReads u l (r.map f) Q := by
  refine ⟨fun hnone => by rw [h.1 hnone]; rfl, fun bytes q hread => ?_⟩
  obtain ⟨t, rfl, hb, hp⟩ := h.2 bytes q hread
  exact ⟨f t, rfl, hb.trans (hbus t), hP bytes t hp⟩

end

/-- A bus read, begun where the bus stands as in `u`. -/
theorem ppuRead_of_sameBus {u s : State} (hbus : SameBus u s) (a : BusAddr) :
    (busRead u a.toNat = none → ppuRead a s = .error .mapperFault) ∧
      ∀ b q, busRead u a.toNat = some (b, q) → ∃ t, ppuRead a s = .ok (b, t) ∧ SameBus q t := by
  rw [ppuRead_eq_busRead]
  refine ⟨fun hnone => by rw [(busRead_congr hbus _).1 hnone], fun b q hsome => ?_⟩
  obtain ⟨t, ht, hq⟩ := (busRead_congr hbus _).2 b q hsome
  exact ⟨t, by rw [ht], hq⟩

/-- A rendering fetch makes the one read of its address. -/
theorem fetchInto_makesReads {u s : State} (hbus : SameBus u s) {a : BusAddr} {n : Nat} (hn : a.toNat = n)
    {k : Byte → State → State} (hk : ∀ b q, SameBus q (k b q)) :
    MakesReads u [n] (fetchInto a k s) fun _ t => ∃ b q, ppuRead a s = .ok (b, q) ∧ t = k b q := by
  obtain ⟨hnone, hsome⟩ := ppuRead_of_sameBus hbus a
  rw [hn] at hnone hsome
  unfold MakesReads
  rw [busReads_cons]
  cases hread : busRead u n with
  | none => exact ⟨fun _ => by rw [fetchInto, hnone hread], by simp⟩
  | some r =>
    obtain ⟨t, ht, hq⟩ := hsome r.1 r.2 hread
    refine ⟨nofun, fun bytes q hok => ?_⟩
    simp only [Option.bind_some, busReads, Option.map_some, Option.some.injEq, Prod.mk.injEq] at hok
    obtain ⟨-, rfl⟩ := hok
    exact ⟨k r.1 t, fetchInto_of_ppuRead ht, hq.trans (hk _ _), r.1, t, ht, rfl⟩

/-! ### The background's reads -/

/-- The read of the phase action of dot `c` (42_background_pipeline.md R162 to R165). -/
def phaseReads (c : Nat) (s : State) : List Nat :=
  if c % 8 = 1 then [nametableFetch s]
  else if c % 8 = 3 then [attributeFetch s]
  else if c % 8 = 5 then [patternFetch s]
  else if c % 8 = 7 then [patternFetch s + 8]
  else []

/-- The reads of `BgDot` at dot `c`. -/
def dotReads (c : Nat) (s : State) : List Nat :=
  if InWindow c then phaseReads c s
  else if c = 338 ∨ c = 340 then [nametableFetch s]
  else []

theorem backgroundReads_eq (s : State) : backgroundReads s = dotReads s.seq.cycle s := rfl

theorem sameBus_setBg (b : BgPipe) (s : State) : SameBus s (s.setBg b) := ⟨rfl, rfl, rfl, rfl, rfl⟩

theorem scrollIfRendering_sameBus (f : VramAddr → VramAddr) (s : State) : SameBus s (scrollIfRendering f s) := by
  unfold scrollIfRendering
  split
  · exact ⟨rfl, rfl, rfl, rfl, rfl⟩
  · exact SameBus.refl s

theorem bgPhase_makesReads {u s : State} (hbus : SameBus u s) {c : Nat} (hc : 1 ≤ c) :
    MakesReads u (phaseReads c s) (bgPhase c s) fun _ _ => True := by
  have fetch {q : State} (hq : SameBus u q) {a : BusAddr} {n : Nat} (hn : a.toNat = n) (f : Byte → State → BgPipe) :
      MakesReads u [n] (fetchInto a (fun b t => t.setBg (f b t)) q) fun _ _ => True :=
    (fetchInto_makesReads hq hn fun _ _ => sameBus_setBg _ _).mono fun _ _ _ => trivial
  unfold bgPhase
  split
  next hphase =>
    rw [phaseReads, if_pos (by omega)]
    exact fetch (hbus.trans (sameBus_setBg _ s)) (nametableAddr_toNat_eq s) _
  next hphase =>
    rw [phaseReads, if_neg (by omega), if_pos (by omega)]
    exact fetch hbus (attributeAddr_toNat s) _
  next hphase =>
    rw [phaseReads, if_neg (by omega), if_neg (by omega), if_pos (by omega)]
    exact fetch hbus (bgPatternAddr_toNat s) _
  next hphase =>
    rw [phaseReads, if_neg (by omega), if_neg (by omega), if_neg (by omega), if_pos (by omega)]
    exact fetch hbus (bgPatternAddrHigh_toNat s) _
  next hphase =>
    rw [phaseReads, if_neg (by omega), if_neg (by omega), if_neg (by omega), if_neg (by omega)]
    exact makesReads_ok (hbus.trans (scrollIfRendering_sameBus _ s)) trivial
  next h0 h2 h4 h6 h7 =>
    have h1 : c % 8 ≠ 1 := fun h8 => h0 (by omega)
    have h3 : c % 8 ≠ 3 := fun h8 => h2 (by omega)
    have h5 : c % 8 ≠ 5 := fun h8 => h4 (by omega)
    have h7 : c % 8 ≠ 7 := fun h8 => h6 (by omega)
    rw [phaseReads, if_neg h1, if_neg h3, if_neg h5, if_neg h7]
    exact makesReads_ok hbus trivial

theorem shiftIfRendering_sameBus (s : State) : SameBus s (shiftIfRendering s) := by
  rw [shiftIfRendering_eq]
  exact sameBus_setBg _ s

/-- The shift of a dot moves no fetch. -/
theorem phaseReads_shift (c : Nat) (s : State) : phaseReads c (shiftIfRendering s) = phaseReads c s := by
  unfold shiftIfRendering
  split
  · rfl
  · rfl

theorem bgScroll_sameBus (sl : Int) (c : Nat) (s : State) : SameBus s (bgScroll sl c s) := by
  have step {p : Prop} [Decidable p] (f : State → State) (hf : ∀ q, SameBus q (f q)) (q : State) :
      SameBus q (if p then f q else q) := by
    split
    · exact hf q
    · exact SameBus.refl q
  unfold bgScroll
  exact ((step incrementScrollY (scrollIfRendering_sameBus _) s).trans
    (step (fun q => transferAddressX (q.setBg (loadBgShifters q.bg)))
      (fun q => (sameBus_setBg _ q).trans (scrollIfRendering_sameBus _ _)) _)).trans
    (step transferAddressY (fun q => scrollIfRendering_sameBus _ q) _)

theorem bgDummy_makesReads {u s : State} (hbus : SameBus u s) (c : Nat) :
    MakesReads u (if c = 338 ∨ c = 340 then [nametableFetch s] else []) (bgDummy c s) fun _ _ => True := by
  rw [bgDummy]
  split
  · exact (fetchInto_makesReads hbus (nametableAddr_toNat_eq s) fun _ q => SameBus.refl q).mono fun _ _ _ => trivial
  · exact makesReads_ok hbus trivial

theorem bgDot_eq_bind (sl : Int) (c : Nat) (s : State) :
    bgDot sl c s = (bgWindow c s).bind fun q => bgDummy c (bgScroll sl c q) := by
  rw [bgDot]
  cases bgWindow c s with
  | ok q => rfl
  | error f => rfl

theorem bgDot_makesReads_in_window {u s : State} (hbus : SameBus u s) {sl : Int} {c : Nat} (hw : InWindow c) :
    MakesReads u (dotReads c s) (bgDot sl c s) fun _ _ => True := by
  rw [dotReads, if_pos hw, bgDot_eq_bind, bgWindow, if_pos ((bgActive_iff c).mpr hw), ← phaseReads_shift,
    ← List.append_nil (phaseReads _ _)]
  have hc : 1 ≤ c := by omega
  refine (bgPhase_makesReads (hbus.trans (shiftIfRendering_sameBus s)) hc).bind fun bytes q t hq _ => ?_
  rw [bgDummy, if_neg (by omega)]
  exact makesReads_ok (hq.trans (bgScroll_sameBus sl c t)) trivial

theorem bgDot_makesReads_off_window {u s : State} (hbus : SameBus u s) {sl : Int} {c : Nat} (hw : ¬ InWindow c) :
    MakesReads u (dotReads c s) (bgDot sl c s) fun _ _ => True := by
  have hwindow : bgWindow c s = .ok s := if_neg ((bgActive_iff c).not.mpr hw)
  have hdot : bgDot sl c s = bgDummy c (bgScroll sl c s) := by
    rw [bgDot, hwindow]
  rw [dotReads, if_neg hw, hdot]
  by_cases hc : c = 338 ∨ c = 340
  · have hscroll : bgScroll sl c s = s := by
      rw [bgScroll_of_no_transfer s (by omega) (by omega), if_neg (by omega)]
    rw [hscroll]
    exact bgDummy_makesReads hbus c
  · rw [if_neg hc, bgDummy, if_neg hc]
    exact makesReads_ok (hbus.trans (bgScroll_sameBus sl c s)) trivial

/-- The background's dot makes the reads of 42_background_pipeline.md. -/
theorem bgDot_makesReads {u s : State} (hbus : SameBus u s) (sl : Int) (c : Nat) :
    MakesReads u (dotReads c s) (bgDot sl c s) fun _ t => BgFrame s t := by
  have hdot : MakesReads u (dotReads c s) (bgDot sl c s) fun _ _ => True := by
    by_cases hw : InWindow c
    · exact bgDot_makesReads_in_window hbus hw
    · exact bgDot_makesReads_off_window hbus hw
  refine ⟨hdot.1, fun bytes q hread => ?_⟩
  obtain ⟨t, ht, hq, -⟩ := hdot.2 bytes q hread
  exact ⟨t, ht, hq, bgDot_frame ht⟩

/-! ### The sprites' reads -/

/-- A read followed by a procedure that takes its byte. -/
theorem readThen_makesReads {u s : State} {l : List Nat} {P : List Byte → State → Prop} (hbus : SameBus u s)
    {a : BusAddr} {n : Nat} (hn : a.toNat = n) {g : Byte × State → Except Fault State}
    (hg : ∀ b q t, SameBus q t → SameButCalls s t → MakesReads q l (g (b, t)) fun bs x => P (b :: bs) x) :
    MakesReads u (n :: l) ((ppuRead a s).bind g) P := by
  obtain ⟨hnone, hsome⟩ := ppuRead_of_sameBus hbus a
  rw [hn] at hnone hsome
  unfold MakesReads
  rw [busReads_cons]
  cases hread : busRead u n with
  | none => exact ⟨fun _ => by rw [hnone hread]; rfl, by simp⟩
  | some r =>
    obtain ⟨t, ht, hq⟩ := hsome r.1 r.2 hread
    obtain ⟨hfail, hok⟩ := hg r.1 r.2 t hq (ppuRead_same ht)
    rw [ht]
    refine ⟨fun hreads => hfail (by simpa using hreads), fun bytes q hreads => ?_⟩
    simp only [Option.bind_some, Option.map_eq_some_iff, Prod.mk.injEq] at hreads
    obtain ⟨p, hp, rfl, rfl⟩ := hreads
    exact hok p.1 p.2 hp

theorem evenPart_toNat : ∀ tile : Byte, (tile &&& 0xFE#8).toNat = tile.toNat / 2 * 2 := by decide

theorem bit_zero_iff : ∀ tile : Byte, bit tile 0 = true ↔ tile.toNat % 2 = 1 := by decide

/-- The 8×16 pattern address by fields (R192). -/
theorem spriteAddr16_eq (tile : Byte) (row : Int) : spriteAddr16 tile row = (tile.toNat % 2 : Nat) * 4096 +
    (if row > 7 then (tile.toNat / 2 * 2 + 1 : Nat) * 16 + (row - 8) else (tile.toNat / 2 * 2 : Nat) * 16 + row) := by
  have htable : (if bit tile 0 = true then (0x1000 : Int) else 0) = (tile.toNat % 2 : Nat) * 4096 := by
    by_cases h0 : bit tile 0 = true
    · rw [if_pos h0, (bit_zero_iff tile).mp h0]
      rfl
    · have hval : tile.toNat % 2 = 0 := by
        have hne := (bit_zero_iff tile).not.mp h0
        omega
      rw [if_neg h0, hval]
      rfl
  simp only [spriteAddr16, evenPart_toNat, htable]
  split
  · push_cast
    ring
  · push_cast
    ring

/-- The address of a slot's row is the spec's (R190 to R192). -/
theorem spriteAddr_eq_slotAddress (ctrl : Byte) (sl : Int) (slot : Slot) :
    spriteAddr ctrl slot.tile (spriteRow (spriteHeight ctrl) sl slot.y slot.attr) = slotAddress ctrl sl slot := by
  rw [spriteAddr, spriteAddr16_eq]
  rfl

theorem busOfInt_toNat (a : Int) : (busOfInt a).toNat = (a % 0x4000).toNat := by
  rw [busOfInt, BitVec.toNat_ofInt]
  rfl

/-- The planes `lo` and `hi` stored in the shifters of slot `i`, flip-H applied (R190). -/
def SpriteLine.storePlanes (p : SpriteLine) (i : Fin 8) (lo hi : Byte) : SpriteLine :=
  { p with
    shifterLo := p.shifterLo.set i (flipH p.slots[i].attr lo)
    shifterHi := p.shifterHi.set i (flipH p.slots[i].attr hi) }

/-- Slot `i`'s fetch makes the two reads of its address. -/
theorem fetchSlotPatterns_makesReads {u s : State} (hbus : SameBus u s) (i : Fin 8) :
    MakesReads u (slotReads s s.spr.slots[i]) (fetchSlotPatterns s.seq.scanline i s) fun bytes t =>
      ∃ lo hi log m, bytes = [lo, hi] ∧
        t = { s with spr := s.spr.storePlanes i lo hi, cartLog := log, mir := { s.mir with cached := m } } := by
  have hbind : fetchSlotPatterns s.seq.scanline i s =
      (ppuRead (busOfInt (slotAddress s.regs.ctrl s.seq.scanline s.spr.slots[i])) s).bind fun lo =>
        (ppuRead (busOfInt (slotAddress s.regs.ctrl s.seq.scanline s.spr.slots[i] + 8)) lo.2).bind fun hi =>
          .ok (hi.2.setSpr { hi.2.spr with
            shifterLo := hi.2.spr.shifterLo.set i (flipH s.spr.slots[i].attr lo.1)
            shifterHi := hi.2.spr.shifterHi.set i (flipH s.spr.slots[i].attr hi.1) }) := by
    simp only [fetchSlotPatterns, spriteAddr_eq_slotAddress]
    cases ppuRead (busOfInt (slotAddress s.regs.ctrl s.seq.scanline s.spr.slots[i])) s with
    | error f => rfl
    | ok r =>
      dsimp only [Except.bind]
      cases ppuRead (busOfInt (slotAddress s.regs.ctrl s.seq.scanline s.spr.slots[i] + 8)) r.2 with
      | error f => rfl
      | ok r' => rfl
  rw [hbind]
  refine readThen_makesReads hbus (busOfInt_toNat _) fun lo q t hq hlo => ?_
  refine readThen_makesReads hq (busOfInt_toNat _) fun hi q' t' hq' hhi => ?_
  obtain ⟨log, m, rfl⟩ := hlo
  obtain ⟨log', m', rfl⟩ := hhi
  exact makesReads_ok (hq'.trans ⟨rfl, rfl, rfl, rfl, rfl⟩) ⟨lo, hi, log', m', rfl, rfl⟩

/-- From the sprite line `p` the fetches of the slots `l` left `t`: two bytes a slot, in order. -/
structure PlanesStored (p : SpriteLine) (l : List (Fin 8)) (bytes : List Byte) (t : SpriteLine) : Prop where
  others : ∀ i, i ∉ l → t.shifterLo[i] = p.shifterLo[i] ∧ t.shifterHi[i] = p.shifterHi[i]
  planes : ∀ (j : Nat) (i : Fin 8), l[j]? = some i → ∃ lo hi, bytes[2 * j]? = some lo ∧ bytes[2 * j + 1]? = some hi ∧
    t.shifterLo[i] = flipH p.slots[i].attr lo ∧ t.shifterHi[i] = flipH p.slots[i].attr hi

theorem PlanesStored.cons {p t : SpriteLine} {i : Fin 8} {l : List (Fin 8)} {lo hi : Byte} {bytes : List Byte}
    (hi' : i ∉ l) (h : PlanesStored (p.storePlanes i lo hi) l bytes t) :
    PlanesStored p (i :: l) (lo :: hi :: bytes) t := by
  refine ⟨fun k hk => ?_, fun j k hk => ?_⟩
  · obtain ⟨hne, hmem⟩ := not_or.mp (List.mem_cons.not.mp hk)
    obtain ⟨h1, h2⟩ := h.others k hmem
    have hval : i.val ≠ k.val := fun he => hne (Fin.ext he.symm)
    rw [h1, h2]
    exact ⟨Vector.getElem_set_ne i.isLt k.isLt hval, Vector.getElem_set_ne i.isLt k.isLt hval⟩
  · cases j with
    | zero =>
      cases hk
      obtain ⟨h1, h2⟩ := h.others i hi'
      rw [h1, h2]
      exact ⟨lo, hi, rfl, rfl, Vector.getElem_set_self _, Vector.getElem_set_self _⟩
    | succ j => exact h.planes j k hk

theorem fetchSlots_cons_of_active {sl : Int} {i : Fin 8} {l : List (Fin 8)} {s : State}
    (h : activeSlot s.spr i = true) : fetchSlots sl (i :: l) s = (fetchSlotPatterns sl i s).bind (fetchSlots sl l) := by
  rw [fetchSlots, if_pos h]
  cases fetchSlotPatterns sl i s with
  | ok t => rfl
  | error f => rfl

theorem fetchSlots_cons_of_inactive {sl : Int} {i : Fin 8} {l : List (Fin 8)} {s : State}
    (h : ¬ activeSlot s.spr i = true) : fetchSlots sl (i :: l) s = fetchSlots sl l s := by
  rw [fetchSlots, if_neg h]

/-- The pattern fetch makes the reads of the active slots, in order, and stores their planes. -/
theorem fetchSlots_makesReads {l : List (Fin 8)} (hl : l.Nodup) {u s : State} (hbus : SameBus u s) :
    MakesReads u ((l.filter (activeSlot s.spr)).flatMap fun i => slotReads s s.spr.slots[i])
      (fetchSlots s.seq.scanline l s) fun bytes t => PlanesStored s.spr (l.filter (activeSlot s.spr)) bytes t.spr := by
  induction l generalizing u s with
  | nil => exact makesReads_ok hbus ⟨fun _ _ => ⟨rfl, rfl⟩, nofun⟩
  | cons i l ih =>
    obtain ⟨hi, hl⟩ := List.nodup_cons.mp hl
    by_cases ha : activeSlot s.spr i = true
    · rw [fetchSlots_cons_of_active ha, List.filter_cons_of_pos ha, List.flatMap_cons]
      refine (fetchSlotPatterns_makesReads hbus i).bind fun bytes q t hq hstored => ?_
      obtain ⟨lo, hi', log, m, rfl, rfl⟩ := hstored
      exact (ih hl hq).mono fun bs x hx => hx.cons (fun hmem => hi (List.mem_of_mem_filter hmem))
    · rw [fetchSlots_cons_of_inactive ha, List.filter_cons_of_neg ha]
      exact ih hl hbus

/-- The active slots are the first `count` of the eight. -/
theorem activeSlots_eq_take (p : SpriteLine) : allSlots.filter (activeSlot p) = allSlots.take p.count := by
  have hfew : ∀ n : Fin 9, (allSlots.filter fun i => decide (i.val < n.val)) = allSlots.take n.val := by decide
  by_cases hn : p.count < 9
  · exact hfew ⟨p.count, hn⟩
  · have hall : ∀ i ∈ allSlots, activeSlot p i = true := fun i _ => decide_eq_true (by omega)
    rw [List.filter_eq_self.mpr hall, List.take_of_length_le (show allSlots.length ≤ p.count from by
      show 8 ≤ p.count
      omega)]

theorem allSlots_getElem? : ∀ i : Fin 8, allSlots[i.val]? = some i := by decide

theorem activeSlots_getElem? {p : SpriteLine} {i : Fin 8} (h : i.val < p.count) :
    (allSlots.filter (activeSlot p))[i.val]? = some i := by
  rw [activeSlots_eq_take, List.getElem?_take_of_lt h, allSlots_getElem?]

theorem allSlots_map_getElem (v : Vector Slot 8) : allSlots.map (fun i => v[i]) = v.toList := by
  have hlist : allSlots = List.finRange 8 := by decide
  apply List.ext_getElem
  · simp [allSlots]
  · intro k h1 h2
    simp [hlist]

/-- The reads of dot 340, slot by slot. -/
theorem slotReads_of_activeSlots (s : State) : (s.spr.slots.toList.take s.spr.count).flatMap (slotReads s) =
    (allSlots.filter (activeSlot s.spr)).flatMap fun i => slotReads s s.spr.slots[i] := by
  rw [activeSlots_eq_take, ← allSlots_map_getElem, ← List.map_take, List.flatMap_map]

/-! ### The reads of the whole tick -/

/-- Of the fetches of a tick that answered: at dot 340 of a visible line the planes of the active slots are stored, the
background's dummy read coming first. -/
def StoresSpritePlanes (s : State) (bytes : List Byte) (t : State) : Prop :=
  OnVisibleLine s → s.seq.cycle = 340 → ∃ b rest, bytes = b :: rest ∧
    PlanesStored s.spr (allSlots.filter (activeSlot s.spr)) rest t.spr

theorem sameBus_tickHead (s : State) : SameBus s (tickHead s) := by
  simp [SameBus]

theorem dotReads_tickHead (c : Nat) (s : State) : dotReads c (tickHead s) = dotReads c s := by
  simp [dotReads, phaseReads, nametableFetch, attributeFetch, patternFetch]

/-- The background's dot of a tick. -/
theorem tickBackground_makesReads (s : State) :
    MakesReads s (backgroundReads s) (bgDot s.seq.scanline s.seq.cycle (tickHead s)) fun _ t =>
      BgFrame (tickHead s) t := by
  rw [backgroundReads_eq, ← dotReads_tickHead]
  exact bgDot_makesReads (sameBus_tickHead s) s.seq.scanline s.seq.cycle

/-- Step (c) of a tick on a visible line, dot 340 apart. -/
theorem tickFetch_makesReads_visible {s : State} (hl : OnVisibleLine s) (hc : s.seq.cycle ≠ 340) :
    MakesReads s (backgroundReads s) (tickFetch s.seq.scanline s.seq.cycle (tickHead s)) (StoresSpritePlanes s) := by
  have hfetch : tickFetch s.seq.scanline s.seq.cycle (tickHead s) =
      (bgDot s.seq.scanline s.seq.cycle (tickHead s)).map (spriteWork s.seq.scanline s.seq.cycle) := by
    rw [tickFetch, if_pos (by omega)]
    cases bgDot s.seq.scanline s.seq.cycle (tickHead s) with
    | error f => rfl
    | ok b => exact (if_pos hl.1).trans (spriteDot_of_ne b hc)
  rw [hfetch]
  refine (tickBackground_makesReads s).map (fun t => ?_) fun _ _ _ _ hdot => absurd hdot hc
  rw [spriteWork_eq]
  exact ⟨rfl, rfl, rfl, rfl, rfl⟩

/-- Step (c) of a tick at dot 340 of a visible line. -/
theorem tickFetch_makesReads_at_fetch {s : State} (hl : OnVisibleLine s) (hc : s.seq.cycle = 340) :
    MakesReads s (backgroundReads s ++ (s.spr.slots.toList.take s.spr.count).flatMap (slotReads s))
      (tickFetch s.seq.scanline s.seq.cycle (tickHead s)) (StoresSpritePlanes s) := by
  have hfetch : tickFetch s.seq.scanline s.seq.cycle (tickHead s) =
      (bgDot s.seq.scanline s.seq.cycle (tickHead s)).bind (fetchSlots s.seq.scanline allSlots) := by
    rw [tickFetch, if_pos (by omega), hc]
    cases bgDot s.seq.scanline 340 (tickHead s) with
    | error f => rfl
    | ok b => exact (if_pos hl.1).trans (spriteDot_at_fetch _ b)
  rw [hfetch, slotReads_of_activeSlots]
  have hone : (backgroundReads s).length = 1 := by
    rw [backgroundReads, if_neg (by omega), if_pos (.inr hc)]
    rfl
  have hlead : MakesReads s (backgroundReads s) (bgDot s.seq.scanline s.seq.cycle (tickHead s)) fun bytes t =>
      bytes.length = 1 ∧ BgFrame (tickHead s) t := by
    refine ⟨(tickBackground_makesReads s).1, fun bytes q hread => ?_⟩
    obtain ⟨t, ht, hq, hframe⟩ := (tickBackground_makesReads s).2 bytes q hread
    exact ⟨t, ht, hq, (length_of_busReads hread).trans hone, hframe⟩
  rw [tickHead_of_not_preRender (by omega)] at hlead ⊢
  refine hlead.bind fun bytes q t hq hb => ?_
  obtain ⟨hlen, v, bg, log, m, rfl⟩ := hb
  obtain ⟨b, rfl⟩ := List.length_eq_one_iff.mp hlen
  exact (fetchSlots_makesReads (by decide) hq).mono fun bs x hstored _ _ => ⟨b, bs, rfl, hstored⟩

/-- Step (c) of a tick makes the reads of the tick. -/
theorem tickFetch_makesReads (s : State) : MakesReads s (tickReads s)
    (tickFetch s.seq.scanline s.seq.cycle (tickHead s)) (StoresSpritePlanes s) := by
  by_cases hline : OnFetchLine s
  · by_cases hl : OnVisibleLine s
    · by_cases hc : s.seq.cycle = 340
      · rw [tickReads, if_pos hline, if_pos ⟨hl, hc⟩]
        exact tickFetch_makesReads_at_fetch hl hc
      · rw [tickReads, if_pos hline, if_neg (fun hdot => hc hdot.2), List.append_nil]
        exact tickFetch_makesReads_visible hl hc
    · have hpre : s.seq.scanline = -1 := by omega
      rw [tickReads, if_pos hline, if_neg (fun hdot => hl hdot.1), List.append_nil]
      have hread := tickBackground_makesReads s
      rw [hpre] at hread ⊢
      rw [tickFetch_preRenderLine]
      exact hread.mono fun _ _ _ hvisible => absurd hvisible hl
  · rw [tickReads, if_neg hline, tickFetch_off hline]
    exact makesReads_ok (sameBus_tickHead s) fun hl => absurd ⟨by omega, hl.2⟩ hline

/-- The record of cartridge calls after steps (d) to (i) (R221). -/
theorem tickTail_cartLog (sl : Int) (c : Nat) (q : State) : (tickTail sl c q).cartLog =
    (if q.regs.renderingEnabled = true ∧ c = 260 ∧ 0 ≤ sl ∧ sl ≤ 239 then [CartCall.clockScanline] else []) ++
      q.cartLog := by
  have hclock (u : State) : (cartClockScanline u).cartLog = .clockScanline :: u.cartLog := by
    unfold cartClockScanline
    split
    · rfl
    · rfl
  unfold tickTail
  dsimp only
  rw [State.setSeq_cartLog, tickLatch_cartLog, tickClock, tickCompose_renderingEnabled, tickVblank_renderingEnabled]
  split
  · rw [hclock, tickCompose_cartLog, tickVblank_cartLog]
    rfl
  · rw [tickCompose_cartLog, tickVblank_cartLog]
    rfl

/-- A tick whose reads all succeed. -/
theorem execTick_of_busReads {s q : State} {bytes : List Byte} (h : busReads s (tickReads s) = some (bytes, q)) :
    ∃ t, exec .tick s = .next t ∧ t.mir = q.mir ∧
      t.cartLog = (if s.regs.renderingEnabled = true ∧ OnVisibleLine s ∧ s.seq.cycle = 260
        then [CartCall.clockScanline] else []) ++ q.cartLog ∧ StoresSpritePlanes s bytes t := by
  obtain ⟨r, hr, ⟨-, hlog, hmir, -, -⟩, hplanes⟩ := (tickFetch_makesReads s).2 bytes q h
  obtain ⟨-, -, -, -, -, -, -, -, -, -, -, hregs⟩ := tickFetch_keeps hr
  have hrendering : r.regs.renderingEnabled = s.regs.renderingEnabled := by
    rw [hregs]
    exact tickHead_renderingEnabled s
  refine ⟨_, execTick_of_fetch hr, by rw [tickTail_mir, hmir], ?_, fun hl hc => ?_⟩
  · rw [tickTail_cartLog, hrendering, hlog]
    congr 1
    exact if_congr (by tauto) rfl rfl
  · obtain ⟨b, rest, hbytes, hothers, hstored⟩ := hplanes hl hc
    refine ⟨b, rest, hbytes, ?_, ?_⟩
    · simpa using hothers
    · simpa using hstored

theorem execTick_of_busReads_none {s : State} (h : busReads s (tickReads s) = none) :
    exec .tick s = .fault .mapperFault := by
  show outcomeOf (tickDot s) = .fault .mapperFault
  rw [tickDot, (tickFetch_makesReads s).1 h]
  rfl

theorem bit_reverse (b : Byte) {k : Nat} (hk : k < 8) : bit b.reverse k = bit b (7 - k) := by
  rw [bit, BitVec.getLsbD_reverse, BitVec.getMsbD_eq_getLsbD, decide_eq_true hk, Bool.true_and]
  rfl

/-- What flip-H stores (R190, R193). -/
theorem storedPlane_flipH (attr b : Byte) : StoredPlane attr b (flipH attr b) := by
  intro k hk
  rw [flipH]
  split
  · exact bit_reverse b hk
  · rfl

/-- Settles O58: step (c) makes the reads of the tick in order, and the rest of the tick reads nothing. -/
theorem tickReadsTheBus : Obligations.TickReadsTheBus := by
  unfold Obligations.TickReadsTheBus
  intro s
  refine ⟨⟨fun hfault => ?_, execTick_of_busReads_none⟩, fun bytes q h => ?_⟩
  · cases hread : busReads s (tickReads s) with
    | none => rfl
    | some r =>
      obtain ⟨t, ht, -⟩ := execTick_of_busReads hread
      rw [ht] at hfault
      cases hfault
  · obtain ⟨t, ht, hmir, hlog, hplanes⟩ := execTick_of_busReads h
    refine ⟨t, ht, hmir, hlog, fun hl hc i hi => ?_⟩
    obtain ⟨b, rest, rfl, hstored⟩ := hplanes hl hc
    obtain ⟨lo, hi', hlo, hhi, h1, h2⟩ := hstored.planes i.val i (activeSlots_getElem? hi)
    refine ⟨lo, hi', hlo, hhi, ?_, ?_⟩
    · rw [h1]
      exact storedPlane_flipH _ _
    · rw [h2]
      exact storedPlane_flipH _ _

/-! ### The sprite patterns with the test cartridge (O40) -/

theorem busRead_cart {u q : State} {a : Nat} {b : Byte} (h : busRead u a = some (b, q)) : q.cart = u.cart := by
  by_cases h1 : a < 0x2000
  · rw [busRead_of_pattern u h1, Option.map_eq_some_iff] at h
    obtain ⟨_, -, he⟩ := h
    cases he
    rfl
  · by_cases h2 : a < 0x3F00
    · rw [busRead_of_nametable u (by omega) h2] at h
      cases h
      unfold queried
      split
      · rfl
      · rfl
    · rw [busRead_of_palette u (by omega)] at h
      cases h
      rfl

/-- With the test cartridge a pattern read gives its CHR byte. -/
theorem busReads_getElem?_of_testT0 {board : T0Board} {l : List Nat} {u q : State} {bytes : List Byte}
    (hcart : u.cart = .testT0 board) (h : busReads u l = some (bytes, q)) {j a : Nat} (hj : l[j]? = some a)
    (ha : a < 0x2000) : bytes[j]? = some (Memory.read board.chr a) := by
  induction l generalizing u bytes j with
  | nil => cases hj
  | cons a' l ih =>
    rw [busReads_cons, Option.bind_eq_some_iff] at h
    obtain ⟨⟨b, r⟩, hb, h⟩ := h
    rw [Option.map_eq_some_iff] at h
    obtain ⟨p, hp, he⟩ := h
    cases he
    cases j with
    | zero =>
      cases hj
      have hanswer : cartReadAnswer u (BitVec.ofNat 13 a) = some (Memory.read board.chr a) := by
        rw [cartReadAnswer, hcart, BitVec.toNat_ofNat, Nat.mod_eq_of_lt ha]
      rw [busRead_of_pattern u ha, hanswer] at hb
      cases hb
      rfl
    | succ j => exact ih ((busRead_cart hb).trans hcart) hp hj

theorem flatMap_pair_getElem? {α β : Type} (f g : α → β) (l : List α) (j : Nat) :
    (l.flatMap fun x => [f x, g x])[2 * j]? = l[j]?.map f ∧
      (l.flatMap fun x => [f x, g x])[2 * j + 1]? = l[j]?.map g := by
  induction l generalizing j with
  | nil => exact ⟨rfl, rfl⟩
  | cons x l ih =>
    cases j with
    | zero => exact ⟨rfl, rfl⟩
    | succ j => exact ih j

/-- The reads of active slot `i` stand after the background's dummy read. -/
theorem tickReads_of_slot {s : State} (hl : OnVisibleLine s) (hc : s.seq.cycle = 340) {i : Fin 8}
    (hi : i.val < s.spr.count) :
    (tickReads s)[2 * i.val + 1]? =
        some (slotAddress s.regs.ctrl s.seq.scanline s.spr.slots[i] % 0x4000).toNat ∧
      (tickReads s)[2 * i.val + 2]? =
        some ((slotAddress s.regs.ctrl s.seq.scanline s.spr.slots[i] + 8) % 0x4000).toNat := by
  have hbg : backgroundReads s = [nametableFetch s] := by
    rw [backgroundReads, if_neg (by omega), if_pos (.inr hc)]
  have hpair := flatMap_pair_getElem?
    (fun i : Fin 8 => (slotAddress s.regs.ctrl s.seq.scanline s.spr.slots[i] % 0x4000).toNat)
    (fun i : Fin 8 => ((slotAddress s.regs.ctrl s.seq.scanline s.spr.slots[i] + 8) % 0x4000).toNat)
    (allSlots.filter (activeSlot s.spr)) i.val
  rw [activeSlots_getElem? hi] at hpair
  rw [tickReads, if_pos (by omega), if_pos ⟨hl, hc⟩, slotReads_of_activeSlots, hbg]
  exact hpair

/-- The row of a sprite on the line, flip-V applied, is a row of the sprite (R190). -/
theorem rowOnLine_spec {ctrl : Byte} {sl : Int} {y : Byte} (attr : Byte) (h : SpriteOnLine ctrl sl y) :
    (rowOnLine ctrl sl y attr : Int) = (if bit attr 7 then (if bit ctrl 5 then (16 : Int) else 8) - 1 - (sl - y.toNat)
      else sl - y.toNat) ∧ rowOnLine ctrl sl y attr < if bit ctrl 5 then 16 else 8 := by
  obtain ⟨h0, h1⟩ := h
  unfold rowOnLine
  dsimp only
  split at h1
  next htall =>
    rw [if_pos htall, if_pos htall, if_pos htall]
    split
    · omega
    · omega
  next hshort =>
    rw [if_neg hshort, if_neg hshort, if_neg hshort]
    split
    · omega
    · omega

/-- A slot on the line reads its row of the pattern tables. -/
theorem slotAddress_of_onLine {ctrl : Byte} {sl : Int} {slot : Slot} (h : SpriteOnLine ctrl sl slot.y) :
    slotAddress ctrl sl slot = (spritePattern ctrl slot.tile (rowOnLine ctrl sl slot.y slot.attr) : Nat) ∧
      spritePattern ctrl slot.tile (rowOnLine ctrl sl slot.y slot.attr) + 8 < 0x2000 := by
  have htile := slot.tile.isLt
  obtain ⟨hrow, hlt⟩ := rowOnLine_spec slot.attr h
  unfold slotAddress spritePattern
  dsimp only
  rw [← hrow]
  generalize rowOnLine ctrl sl slot.y slot.attr = row at hlt
  by_cases htall : bit ctrl 5 = true
  · rw [if_pos htall] at hlt
    rw [if_pos htall, if_pos htall]
    refine ⟨?_, by omega⟩
    split
    · omega
    · omega
  · rw [if_neg htall] at hlt
    rw [if_neg htall, if_neg htall]
    split
    · refine ⟨by push_cast; rfl, by omega⟩
    · refine ⟨by push_cast; rfl, by omega⟩

/-- The two reads of a slot on the line. -/
theorem slotReads_of_onLine {ctrl : Byte} {sl : Int} {slot : Slot} (h : SpriteOnLine ctrl sl slot.y) :
    (slotAddress ctrl sl slot % 0x4000).toNat =
        spritePattern ctrl slot.tile (rowOnLine ctrl sl slot.y slot.attr) ∧
      ((slotAddress ctrl sl slot + 8) % 0x4000).toNat =
        spritePattern ctrl slot.tile (rowOnLine ctrl sl slot.y slot.attr) + 8 := by
  obtain ⟨haddr, hlt⟩ := slotAddress_of_onLine h
  rw [haddr]
  omega

/-- Settles O40: the reads of the active slots are pattern reads of the test cartridge, which never fail. -/
theorem spritePatternsFetchedAtDot340 : Obligations.SpritePatternsFetchedAtDot340 := by
  unfold Obligations.SpritePatternsFetchedAtDot340
  intro s board hl hc hcart
  obtain ⟨t, ht⟩ := execTick_total (s := s) (by rw [hcart]; exact True.intro)
  obtain ⟨hslots, hcount, -⟩ := tick_spr_visible_parts ht hl
  have hline : dotLine s.seq.cycle s = s.spr := by
    rw [dotLine, if_neg (by omega), if_neg (by omega)]
  rw [hline] at hslots hcount
  refine ⟨t, ht, hslots, hcount, fun i => ?_⟩
  cases hread : busReads s (tickReads s) with
  | none =>
    rw [execTick_of_busReads_none hread] at ht
    cases ht
  | some r =>
    obtain ⟨t', ht', -, -, hplanes⟩ := execTick_of_busReads hread
    obtain rfl : t' = t := by
      rw [ht] at ht'
      cases ht'
      rfl
    obtain ⟨b, rest, hbytes, hstored⟩ := hplanes hl hc
    refine ⟨fun hi => hstored.others i fun hmem => ?_, fun hi hon => ?_⟩
    · exact hi (of_decide_eq_true (List.mem_filter.mp hmem).2)
    · obtain ⟨lo, hi', hlo, hhi, h1, h2⟩ := hstored.planes i.val i (activeSlots_getElem? hi)
      obtain ⟨-, hlt⟩ := slotAddress_of_onLine hon
      obtain ⟨hreadLo, hreadHi⟩ := slotReads_of_onLine hon
      obtain ⟨haddrLo, haddrHi⟩ := tickReads_of_slot hl hc hi
      rw [hreadLo] at haddrLo
      rw [hreadHi] at haddrHi
      have hbyteLo := busReads_getElem?_of_testT0 hcart hread haddrLo (by omega)
      have hbyteHi := busReads_getElem?_of_testT0 hcart hread haddrHi (by omega)
      rw [hbytes, List.getElem?_cons_succ] at hbyteLo hbyteHi
      rw [hlo, Option.some.injEq] at hbyteLo
      rw [hhi, Option.some.injEq] at hbyteHi
      rw [h1, h2, hbyteLo, hbyteHi]
      exact ⟨storedPlane_flipH _ _, storedPlane_flipH _ _⟩

end Sys2Proof.Machine

/-! ## The composed pixel in the numbers of the spec (44_compositor.md R201 to R208) -/

namespace Sys2Proof.Machine
open Sys2Proof.Spec

/-! ### The background and sprite pixels -/

theorem twoBits_toNat : ∀ hi lo : Bool, (twoBits hi lo).toNat = 2 * hi.toNat + lo.toNat := by decide

theorem bit_toNat {w : Nat} (x : BitVec w) (k : Nat) : (bit x k).toNat = x.toNat / 2 ^ k % 2 :=
  Nat.toNat_testBit _ _

theorem slotPixel_toNat (p : SpriteLine) (i : Fin 8) : (slotPixel p i).toNat = slotValue p i := by
  have hlo := (p.shifterLo[i]).isLt
  have hhi := (p.shifterHi[i]).isLt
  rw [slotPixel, twoBits_toNat, bit_toNat, bit_toNat, slotValue]
  simp only [Nat.reducePow] at *
  omega

/-- The model's background pixel is the spec's (R201). -/
theorem bgPixel_toNat (s : State) (c : Nat) :
    ((bgPixel s.regs s.bg c).value.toNat, (bgPixel s.regs s.bg c).palette.toNat) = bgAt s c := by
  unfold bgPixel bgAt
  by_cases hshown : bit s.regs.mask 3 = true ∧ (bit s.regs.mask 1 = true ∨ c > 8)
  · rw [if_pos (by simpa using hshown), if_pos hshown]
    have hpalette (x : BitVec 2) : (x.setWidth 3).toNat = x.toNat := by
      rw [BitVec.toNat_setWidth, Nat.mod_eq_of_lt (by omega)]
    simp only [hpalette, twoBits_toNat, bit_toNat, tap]
  · rw [if_neg (by simpa using hshown), if_neg hshown]
    rfl

/-- What a winning slot, or none, shows. -/
def winnerResult (p : SpriteLine) (w : Option (Fin 8)) : FgResult :=
  match w with
  | none => FgResult.none
  | some i => slotResult p i

theorem firstWinner_eq_find (p : SpriteLine) (l : List (Fin 8)) :
    firstWinner p l = winnerResult p (l.find? (slotWins p)) := by
  induction l with
  | nil => rfl
  | cons i l ih =>
    rw [firstWinner, List.find?_cons]
    cases slotWins p i with
    | true => rfl
    | false => exact ih

theorem slotWins_eq (p : SpriteLine) (i : Fin 8) : slotWins p i =
    (decide (i.val < p.count) && decide ((p.slots[i]).x.toNat = 0) && decide (slotValue p i ≠ 0)) := by
  have hzero {w : Nat} (x : BitVec w) : (x == 0) = decide (x.toNat = 0) := by
    rw [Bool.eq_iff_iff, beq_iff_eq, decide_eq_true_iff, ← BitVec.toNat_inj]
    simp
  rw [slotWins, activeSlot, bne, hzero, hzero, slotPixel_toNat, decide_not]

/-- The model's sprite pixel is that of the spec's winner (R202). -/
theorem fgPixel_eq_winner (s : State) (c : Nat) : fgPixel s.regs s.spr c = winnerResult s.spr (winner s c) := by
  have hslots : allSlots = List.finRange 8 := by decide
  unfold fgPixel winner
  by_cases hshown : bit s.regs.mask 4 = true ∧ (bit s.regs.mask 2 = true ∨ c > 8)
  · rw [if_pos (by simpa using hshown), if_pos hshown, firstWinner_eq_find, hslots]
    simp only [funext (slotWins_eq s.spr)]
  · rw [if_neg (by simpa using hshown), if_neg hshown]
    rfl

theorem slotValue_of_winner {s : State} {c : Nat} {i : Fin 8} (h : winner s c = some i) : slotValue s.spr i ≠ 0 := by
  unfold winner at h
  split at h
  · have hwins := List.find?_some h
    rw [Bool.and_eq_true_iff] at hwins
    exact of_decide_eq_true hwins.2
  · cases h

/-! ### The palette entry -/

theorem compositorPaletteAddr_toNat : ∀ (v : BitVec 2) (p : BitVec 3), v ≠ 0 →
    (compositorPaletteAddr v p).toNat = p.toNat * 4 + v.toNat := by decide

theorem spritePalette_toNat : ∀ attr : Byte,
    (4#3 + (attr.setWidth 2).setWidth 3).toNat = attr.toNat % 4 + 4 := by decide

/-- The selection table with a sprite pixel that wins, and without one (R203). -/
theorem mux_entry (bg fg : Pixel) (front : Bool) :
    (compositorPaletteAddr (mux bg fg front).value (mux bg fg front).palette).toNat =
      if fg.value = 0 then (if bg.value = 0 then 0 else bg.palette.toNat * 4 + bg.value.toNat)
      else if bg.value = 0 ∨ front = true then fg.palette.toNat * 4 + fg.value.toNat
      else bg.palette.toNat * 4 + bg.value.toNat := by
  by_cases hfg : fg.value = 0
  · by_cases hbg : bg.value = 0
    · rw [mux_of_both_transparent hbg hfg, if_pos hfg, if_pos hbg]
      rfl
    · rw [mux_of_only_background_opaque hbg hfg, if_pos hfg, if_neg hbg, compositorPaletteAddr_toNat _ _ hbg]
  · by_cases hbg : bg.value = 0
    · rw [mux_of_only_sprite_opaque hbg hfg, if_neg hfg, if_pos (.inl hbg), compositorPaletteAddr_toNat _ _ hfg]
    · rw [mux_of_both_opaque hbg hfg, if_neg hfg]
      cases front with
      | true => rw [if_pos rfl, if_pos (.inr rfl), compositorPaletteAddr_toNat _ _ hfg]
      | false => rw [if_neg (by decide), if_neg (by simpa using hbg), compositorPaletteAddr_toNat _ _ hbg]

/-- The palette entry of the composed pixel is the spec's (R203, R205). -/
theorem compositorPaletteAddr_of_composed (s : State) (c : Nat) :
    (compositorPaletteAddr (composedPixel s c).value (composedPixel s c).palette).toNat = shownEntry s c := by
  have hzero (x : BitVec 2) : x = 0 ↔ x.toNat = 0 := by
    rw [← BitVec.toNat_inj]
    rfl
  rw [composedPixel, mux_entry, shownEntry, fgPixel_eq_winner, ← bgPixel_toNat]
  cases hw : winner s c with
  | none =>
    refine (if_pos rfl).trans ?_
    simp only [hzero]
  | some i =>
    have hvalue : slotPixel s.spr i ≠ 0 := by
      rw [Ne, hzero, slotPixel_toNat]
      exact slotValue_of_winner hw
    refine (if_neg hvalue).trans ?_
    simp only [winnerResult, slotResult, spritePalette_toNat, slotPixel_toNat, hzero, Bool.not_eq_true']

/-- The colour of the composed pixel. -/
theorem paletteResolve_of_composed (s : State) (c : Nat) :
    (paletteResolve s.palette (composedPixel s c)).toNat = paletteEntry s.palette (shownEntry s c) := by
  have haddr := compositorPaletteAddr_of_composed s c
  rw [paletteResolve, paletteGet, paletteEntry, ← haddr, dif_pos (BitVec.isLt _)]

/-! ### The tick of a composed dot -/

theorem bgPixel_congr {r r' : Regs} (hmask : r.mask = r'.mask) (hfine : r.fineX = r'.fineX) (b : BgPipe) (c : Nat) :
    bgPixel r b c = bgPixel r' b c := by
  rw [bgPixel, hmask, hfine]
  rfl

theorem firstWinner_zeroBeingRendered (p : SpriteLine) (z : Bool) (l : List (Fin 8)) :
    firstWinner { p with zeroBeingRendered := z } l = firstWinner p l := by
  induction l with
  | nil => rfl
  | cons i l ih =>
    rw [firstWinner, firstWinner, ih]
    rfl

theorem fgPixel_congr {r r' : Regs} (hmask : r.mask = r'.mask) (p : SpriteLine) (z : Bool) (c : Nat) :
    fgPixel r { p with zeroBeingRendered := z } c = fgPixel r' p c := by
  rw [fgPixel, hmask, firstWinner_zeroBeingRendered]
  rfl

/-- What the composer wrote at a composed dot, read in the state after the tick. -/
structure Composed (s t : State) : Prop where
  mask : t.regs.mask = s.regs.mask
  palette : t.palette = s.palette
  frame : t.frame = writePixel s.frame (pixelOffset s.seq.scanline s.seq.cycle)
    (rgbOf s.params (paletteResolve t.palette (composedPixel t s.seq.cycle)))
  zeroBeingRendered : t.spr.zeroBeingRendered =
    ((fgPixel t.regs t.spr s.seq.cycle).slotZero && s.spr.zeroHitPossible)
  status : t.regs.status = if spriteZeroHit s.regs s.spr.zeroHitPossible t.spr.zeroBeingRendered s.seq.cycle
      (bgPixel t.regs t.bg s.seq.cycle) (fgPixel t.regs t.spr s.seq.cycle).pixel
    then setBit (dotStatus s.seq.scanline s.seq.cycle s) hitBit true else dotStatus s.seq.scanline s.seq.cycle s

theorem tick_composed {s t : State} (h : exec .tick s = .next t) (hc : OnComposedDot s) : Composed s t := by
  obtain ⟨hl, hdots⟩ := hc
  obtain ⟨q, lo, hi, rfl, -, hspr, -, hregs, hframe, hpalette, hparams⟩ := tick_visible_fields h hl
  have hmask : q.regs.mask = s.regs.mask := by rw [hregs]
  have hstatus : q.regs.status = dotStatus s.seq.scanline s.seq.cycle s := by rw [hregs]
  have hpossible : q.spr.zeroHitPossible = s.spr.zeroHitPossible := by
    rw [hspr, dotLine, if_neg (show ¬ s.seq.cycle = 257 by omega)]
    split
    · rfl
    · rfl
  have hbg : bgPixel (compose s.seq.scanline s.seq.cycle q).regs q.bg s.seq.cycle = bgPixel q.regs q.bg s.seq.cycle :=
    bgPixel_congr (compose_mask ..) (compose_fineX ..) q.bg s.seq.cycle
  have hfg : fgPixel (compose s.seq.scanline s.seq.cycle q).regs (compose s.seq.scanline s.seq.cycle q).spr s.seq.cycle =
      fgPixel q.regs q.spr s.seq.cycle := by
    rw [compose_spr]
    exact fgPixel_congr (compose_mask ..) q.spr _ s.seq.cycle
  have hcompose : tickCompose s.seq.scanline s.seq.cycle q = compose s.seq.scanline s.seq.cycle q :=
    if_pos ⟨hl.1, hl.2, hdots⟩
  rw [hcompose]
  refine ⟨?_, ?_, ?_, ?_, ?_⟩
  · simp [hmask]
  · simp [hpalette]
  · rw [State.setSeq_frame, tickClock_frame, compose_frame, hframe, hparams, composedPixel, composedPixel]
    simp [hbg, hfg]
  · simp only [State.setSeq_regs, tickClock_regs, State.setSeq_spr, tickClock_spr, hfg]
    rw [compose_spr, ← hpossible]
    rfl
  · simp only [State.setSeq_regs, tickClock_regs, State.setSeq_spr, tickClock_spr, State.setSeq_bg, tickClock_bg,
      compose_bg, hbg, hfg]
    have hhit : spriteZeroHit q.regs = spriteZeroHit s.regs := by
      unfold spriteZeroHit
      rw [hmask]
    rw [compose_status, compose_spr, ← hpossible, ← hstatus, hhit]

/-! ### What the pixel reads as -/

theorem writePixel_read {m : Memory} (hm : Memory.wf frameSize m = true) {o : Nat} (ho : o + 2 < frameSize) (x : Rgb) :
    Memory.read (writePixel m o x) o = x.r ∧ Memory.read (writePixel m o x) (o + 1) = x.g ∧
      Memory.read (writePixel m o x) (o + 2) = x.b := by
  have hr : Memory.wf frameSize (Memory.write m o x.r) = true := Memory.wf_write hm (by omega)
  have hg : Memory.wf frameSize (Memory.write (Memory.write m o x.r) (o + 1) x.g) = true :=
    Memory.wf_write hr (by omega)
  refine ⟨?_, ?_, Memory.read_write_same hg⟩
  · rw [writePixel, Memory.read_write_other _ _ (by omega), Memory.read_write_other _ _ (by omega),
      Memory.read_write_same hm]
  · rw [writePixel, Memory.read_write_other _ _ (by omega), Memory.read_write_same hr]

theorem writePixel_read_other (m : Memory) {o a : Nat} (x : Rgb) (ha : a < o ∨ o + 2 < a) :
    Memory.read (writePixel m o x) a = Memory.read m a := by
  rw [writePixel, Memory.read_write_other _ _ (by omega), Memory.read_write_other _ _ (by omega),
    Memory.read_write_other _ _ (by omega)]

theorem pixelIs_writePixel {m : Memory} (hm : Memory.wf frameSize m = true) {o : Nat} (ho : o + 2 < frameSize)
    (params : Params) (colour : BitVec 6) :
    PixelIs (writePixel m o (rgbOf params colour)) o params colour.toNat :=
  fun _ => writePixel_read hm ho _

/-- The pixel of a composed dot. -/
theorem tick_pixel {s t : State} (h : exec .tick s = .next t) (hwf : Memory.wf frameSize s.frame = true)
    (hc : OnComposedDot s) : PixelIs t.frame ((s.seq.scanline.toNat * 256 + (s.seq.cycle - 1)) * 3) s.params
      (paletteEntry s.palette (shownEntry t s.seq.cycle)) := by
  obtain ⟨-, hpalette, hframe, -, -⟩ := tick_composed h hc
  rw [hframe, ← hpalette, ← paletteResolve_of_composed]
  exact pixelIs_writePixel hwf (pixelOffset_lt (by omega) (by omega)) _ _

/-- Settles O46: the composer writes the pixel of `composedPixel`, which is the spec's. -/
theorem tickWritesTheComposedPixel : Obligations.TickWritesTheComposedPixel := by
  unfold Obligations.TickWritesTheComposedPixel
  intro s t h hwf
  refine ⟨fun hc => ⟨tick_pixel h hwf hc, fun a ha => ?_⟩, fun hc => ?_⟩
  · rw [(tick_composed h hc).frame]
    exact writePixel_read_other _ _ ha
  · by_cases hl : OnVisibleLine s
    · obtain ⟨q, _, _, rfl, -, -, -, -, hframe, -⟩ := tick_visible_fields h hl
      rw [State.setSeq_frame, tickClock_frame, tickCompose_off _ fun hdot => hc ⟨hl, hdot.2.2⟩, hframe]
    · exact tick_frame_not_visible h hl

/-- Settles O48: neither layer shows, so the entry is 0. -/
theorem renderingDisabledShowsBackdrop : Obligations.RenderingDisabledShowsBackdrop := by
  unfold Obligations.RenderingDisabledShowsBackdrop
  intro s t h hwf hc hbackground hsprites
  have hmask := (tick_composed h hc).mask
  have hentry : shownEntry t s.seq.cycle = 0 := by
    have hbg : bgAt t s.seq.cycle = (0, 0) := if_neg (by simp [hmask, hbackground])
    have hwinner : winner t s.seq.cycle = none := if_neg (by simp [hmask, hsprites])
    rw [shownEntry, hwinner, hbg]
    rfl
  have hpixel := tick_pixel h hwf hc
  rwa [hentry] at hpixel

/-! ### Sprite-zero hit -/

theorem slotZero_iff_winner (s : State) (c : Nat) :
    (fgPixel s.regs s.spr c).slotZero = true ↔ winner s c = some 0 := by
  rw [fgPixel_eq_winner]
  cases winner s c with
  | none => simp [winnerResult, FgResult.none]
  | some i => simp [winnerResult, slotResult]

theorem tick_zeroBeingRendered {s t : State} (h : exec .tick s = .next t) (hc : OnComposedDot s) :
    t.spr.zeroBeingRendered = true ↔ winner t s.seq.cycle = some 0 ∧ s.spr.zeroHitPossible = true := by
  rw [(tick_composed h hc).zeroBeingRendered, Bool.and_eq_true_iff, slotZero_iff_winner]

/-- The model's hit condition is the spec's (R204). -/
theorem spriteZeroHit_iff {s t : State} (h : exec .tick s = .next t) (hc : OnComposedDot s) :
    spriteZeroHit s.regs s.spr.zeroHitPossible t.spr.zeroBeingRendered s.seq.cycle
      (bgPixel t.regs t.bg s.seq.cycle) (fgPixel t.regs t.spr s.seq.cycle).pixel = true ↔ HitAt s t := by
  have hopaque (x : BitVec 2) : (x != 0) = true ↔ x.toNat ≠ 0 := by
    rw [bne_iff_ne, Ne, ← BitVec.toNat_inj]
    rfl
  have hbg : (bgAt t s.seq.cycle).1 = (bgPixel t.regs t.bg s.seq.cycle).value.toNat := by
    rw [← bgPixel_toNat]
  have hfg (hw : winner t s.seq.cycle = some 0) : (fgPixel t.regs t.spr s.seq.cycle).pixel.value.toNat ≠ 0 := by
    rw [fgPixel_eq_winner, hw]
    exact (slotPixel_toNat t.spr 0).trans_ne (slotValue_of_winner hw)
  have hclip : (!(decide (s.seq.cycle ≤ 8) && (!bit s.regs.mask 1 || !bit s.regs.mask 2))) = true ↔
      ¬ (s.seq.cycle ≤ 8 ∧ (bit s.regs.mask 1 = false ∨ bit s.regs.mask 2 = false)) := by
    rw [Bool.not_eq_true', ← Bool.not_eq_true]
    simp
  simp only [spriteZeroHit, Bool.and_eq_true_iff, hopaque, hclip, tick_zeroBeingRendered h hc, HitAt, hbg]
  tauto

theorem dotStatus_hitBit (sl : Int) (c : Nat) (s : State) : bit (dotStatus sl c s) 6 = bit s.regs.status 6 := by
  rcases dotStatus_cases sl c s with hd | hd
  · rw [hd]
  · rw [hd, bit_setBit_other _ overflowBit 6 true (by decide)]

theorem tick_hitBit_composed {s t : State} (h : exec .tick s = .next t) (hc : OnComposedDot s) :
    bit t.regs.status 6 = true ↔ bit s.regs.status 6 = true ∨ HitAt s t := by
  have hset (x : Byte) : bit (setBit x hitBit true) 6 = true := bit_setBit_same x 6 true (by decide)
  rw [(tick_composed h hc).status, ← spriteZeroHit_iff h hc]
  split
  next hhit => simp [hset, hhit]
  next hmiss => simp [dotStatus_hitBit, hmiss]

/-- Settles O47: the composer's condition and flag in the words of the spec. -/
theorem spriteZeroHitCondition : Obligations.SpriteZeroHitCondition := by
  unfold Obligations.SpriteZeroHitCondition
  exact fun s t h hc => ⟨tick_hitBit_composed h hc, tick_zeroBeingRendered h hc⟩

/-! ### The three flags after every tick -/

/-- Off the visible lines only the tick at (−1, 1) touches `status[6]` and `status[5]`. -/
theorem tick_spriteBits_not_visible {s t : State} (h : exec .tick s = .next t) (hl : ¬ OnVisibleLine s) {k : Nat}
    (hk : k = hitBit ∨ k = overflowBit) :
    bit t.regs.status k = true ↔ ¬ At s (-1) 1 ∧ bit s.regs.status k = true := by
  rw [tick_status_not_visible h hl]
  split_ifs with hpre hset
  · have hclear : bit (setBit (setBit (setBit s.regs.status hitBit false) overflowBit false) vblankBit false) k =
        false := by
      rcases hk with rfl | rfl
      · rw [bit_setBit_other _ _ _ _ (by decide), bit_setBit_other _ _ _ _ (by decide),
          bit_setBit_same _ _ _ (by decide)]
      · rw [bit_setBit_other _ _ _ _ (by decide), bit_setBit_same _ _ _ (by decide)]
    simp [hclear, hpre]
  · have hkeep : bit (setBit s.regs.status vblankBit true) k = bit s.regs.status k := by
      rcases hk with rfl | rfl
      · exact bit_setBit_other _ _ _ _ (by decide)
      · exact bit_setBit_other _ _ _ _ (by decide)
    rw [hkeep, and_iff_right hpre]
  · rw [and_iff_right hpre]

theorem tick_hitBit {s t : State} (h : exec .tick s = .next t) : bit t.regs.status 6 = true ↔
    ¬ At s (-1) 1 ∧ (bit s.regs.status 6 = true ∨ (OnComposedDot s ∧ HitAt s t)) := by
  by_cases hc : OnComposedDot s
  · have hpre : ¬ At s (-1) 1 := by omega
    rw [tick_hitBit_composed h hc, and_iff_right hpre, and_iff_right hc]
  · rw [or_iff_left fun hdot => hc hdot.1]
    by_cases hl : OnVisibleLine s
    · have hpre : ¬ At s (-1) 1 := by omega
      obtain ⟨q, _, _, rfl, -, -, -, hregs, -⟩ := tick_visible_fields h hl
      have hstatus : q.regs.status = dotStatus s.seq.scanline s.seq.cycle s := by rw [hregs]
      rw [State.setSeq_regs, tickClock_regs, tickCompose_off _ fun hdot => hc ⟨hl, hdot.2.2⟩, hstatus, dotStatus_hitBit,
        and_iff_right hpre]
    · exact tick_spriteBits_not_visible h hl (.inl rfl)

theorem tick_overflowBit {s t : State} (h : exec .tick s = .next t) : bit t.regs.status 5 = true ↔
    ¬ At s (-1) 1 ∧ (bit s.regs.status 5 = true ∨ (Decides s ∧ s.eval.overflowMode = true ∧
      SpriteOnLine s.regs.ctrl s.seq.scanline s.eval.readLatch)) := by
  by_cases hl : OnVisibleLine s
  · have hpre : ¬ At s (-1) 1 := by omega
    rw [tick_overflowBit_visible h hl, findsOverflow_iff, inRange_iff, and_iff_right hpre, Decides]
    tauto
  · have hd : ¬ Decides s := fun hd => hl hd.1
    rw [or_iff_left (fun hfind => hd hfind.1)]
    exact tick_spriteBits_not_visible h hl (.inr rfl)

/-- Settles O60: flag by flag. -/
theorem statusFlagsAfterEveryTick : Obligations.StatusFlagsAfterEveryTick := by
  unfold Obligations.StatusFlagsAfterEveryTick
  intro s t h
  refine ⟨?_, tick_hitBit h, tick_overflowBit h, tick_status_low h⟩
  rw [tick_vblankBit h]
  split_ifs with hpre hset
  · simp [hpre]
  · exact iff_of_true rfl ⟨hpre, .inr hset⟩
  · rw [and_iff_right hpre, or_iff_left hset]

end Sys2Proof.Machine

/-! ## Runs of ticks inside a frame (45_frame_driver.md R223 to R228) -/

namespace Sys2Proof.Machine
open Sys2Proof.Spec

/-! ### The number of a dot -/

/-- The number of the dot the sequencer stands at, counted from (−1, 0). -/
def Sequencer.dots (q : Sequencer) : Nat := (q.scanline + 1).toNat * 341 + q.cycle

/-- The sequencer stands at dot `d` of the frame, the ticks from there to the frame's end complete, and at the dot of
the skip the latch holds what the tick before it stored. -/
structure Standing (d : Nat) (s : State) : Prop where
  inRange : s.seq.InRange
  dots : s.seq.dots = d
  completes : s.cart.NeverFails ∨ 82181 ≤ d
  latch : d = 339 → s.seq.oddSkipLatch = s.regs.renderingEnabled

/-- Inside a frame `Advance` goes to the next dot and keeps the frame flags. -/
theorem advance_dots {q : Sequencer} (h : q.InRange) (hd : q.dots < 89341) : (advance q).dots = q.dots + 1 ∧
    (advance q).oddFrame = q.oddFrame ∧ (advance q).frameComplete = q.frameComplete := by
  obtain ⟨h1, h2, h3⟩ := h
  unfold Sequencer.dots at *
  by_cases hc : q.cycle < 340
  · rw [advance_of_dot hc]
    exact ⟨(Nat.add_assoc ..).symm, rfl, rfl⟩
  · rw [advance_of_line_end (by omega) (by omega)]
    refine ⟨?_, rfl, rfl⟩
    dsimp only
    omega

theorem at_iff_dots {s : State} (h : s.seq.InRange) {sl : Int} {c : Nat} (hsl : -1 ≤ sl) (hc : c ≤ 340) :
    At s sl c ↔ s.seq.dots = (sl + 1).toNat * 341 + c := by
  obtain ⟨h1, h2, h3⟩ := h
  unfold Sequencer.dots At
  omega

section
variable {d : Nat} {s t : State}

theorem Standing.at_iff (h : Standing d s) {sl : Int} {c : Nat} (hsl : -1 ≤ sl) (hc : c ≤ 340) :
    At s sl c ↔ d = (sl + 1).toNat * 341 + c := by
  rw [at_iff_dots h.inRange hsl hc, h.dots]

theorem Standing.tick_answers (h : Standing d s) : ∃ t, exec .tick s = .next t := by
  rcases h.completes with hcart | hlate
  · exact execTick_total hcart
  · refine ⟨_, execTick_of_not_fetchLine ?_⟩
    obtain ⟨h1, h2, h3⟩ := h.inRange
    have hd := h.dots
    unfold Sequencer.dots at hd
    omega

/-- Inside a frame a tick that does not skip goes to the next dot and keeps the frame flags. -/
theorem Standing.tick (h : Standing d s) (hd : d < 89341)
    (hskip : d = 339 → (s.seq.oddFrame && s.regs.renderingEnabled) = false) (ht : exec .tick s = .next t) :
    Standing (d + 1) t ∧ t.seq.oddFrame = s.seq.oddFrame ∧ t.seq.frameComplete = s.seq.frameComplete := by
  have hdots := h.dots
  have hno : ¬ skipsDot s.seq = true := by
    rw [skipsDot_iff]
    rintro ⟨hat, hodd, hlatch⟩
    have h339 : d = 339 := (h.at_iff (by decide) (by decide)).mp hat
    rw [h.latch h339] at hlatch
    simp [hodd, hlatch, h339] at hskip
  have hcart : t.cart.NeverFails ∨ 82181 ≤ d + 1 := h.completes.imp (tick_neverFails ht) fun hlate => by omega
  have hlatch : d + 1 = 339 → t.seq.oddSkipLatch = t.regs.renderingEnabled := by
    intro h339
    have hat : At s (-1) 338 := (h.at_iff (by decide) (by decide)).mpr (by omega)
    rw [tick_seq_at_latch_dot ht hat, tick_regs ht]
  obtain ⟨hat, hcomplete, hodd⟩ := tick_advances_of_no_skip ht hno
  obtain ⟨hnext, hkeepOdd, hkeepComplete⟩ := advance_dots h.inRange (by omega)
  refine ⟨⟨tick_seq_inRange ht h.inRange, ?_, hcart, hlatch⟩, hodd.trans hkeepOdd, hcomplete.trans hkeepComplete⟩
  rw [Sequencer.dots, hat.1, hat.2, ← hdots]
  exact hnext

/-- The tick at (260, 340) ends the frame. -/
theorem Standing.last_tick (h : Standing 89341 s) (ht : exec .tick s = .next t) :
    At t (-1) 0 ∧ t.seq.frameComplete = true ∧ t.seq.oddFrame = !s.seq.oddFrame := by
  obtain ⟨hl, hc⟩ : At s 260 340 := (h.at_iff (by decide) (by decide)).mpr rfl
  have hno : ¬ skipsDot s.seq = true := by
    rw [skipsDot_iff]
    omega
  have hadvance := tick_advances_of_no_skip ht hno
  rwa [advance_of_frame_end hc hl] at hadvance

end

/-! ### Runs -/

/-- What holds at first and is kept by every tick of a run holds at each of its states. -/
theorem run_induction {Q : Nat → State → Prop} {s : State} {n : Nat} (h0 : Q 0 s)
    (hstep : ∀ k t u, k < n → runTicks k s = .next t → Q k t → exec .tick t = .next u → Q (k + 1) u) :
    ∀ k ≤ n, ∀ t, runTicks k s = .next t → Q k t := by
  intro k
  induction k with
  | zero =>
    intro _ t ht
    cases ht
    exact h0
  | succ k ih =>
    intro hk u hu
    cases hrun : runTicks k s with
    | next t =>
      rw [runTicks_succ hrun] at hu
      exact hstep k t u hk hrun (ih (by omega) t hrun) hu
    | fault f =>
      rw [runTicks_add, hrun] at hu
      cases hu
    | refused r =>
      rw [runTicks_add, hrun] at hu
      cases hu

/-- A run of ticks inside a frame: it completes and goes from dot to dot. -/
theorem Standing.run {d n : Nat} {s : State} (h : Standing d s) (hn : d + n ≤ 89341)
    (hskip : 339 < d ∨ d + n ≤ 339 ∨ (s.seq.oddFrame && s.regs.renderingEnabled) = false) : ∀ k ≤ n,
    ∃ t, runTicks k s = .next t ∧ Standing (d + k) t ∧ t.seq.oddFrame = s.seq.oddFrame ∧
      t.seq.frameComplete = s.seq.frameComplete ∧ t.regs.renderingEnabled = s.regs.renderingEnabled := by
  intro k
  induction k with
  | zero => exact fun _ => ⟨s, rfl, h, rfl, rfl, rfl⟩
  | succ k ih =>
    intro hk
    obtain ⟨t, ht, hstand, hodd, hcomplete, hrendering⟩ := ih (by omega)
    obtain ⟨u, hu⟩ := hstand.tick_answers
    have hno : d + k = 339 → (t.seq.oddFrame && t.regs.renderingEnabled) = false := by
      intro h339
      rw [hodd, hrendering]
      rcases hskip with hlate | hearly | hskip
      · omega
      · omega
      · exact hskip
    obtain ⟨hnext, hodd', hcomplete'⟩ := hstand.tick (by omega) hno hu
    refine ⟨u, (runTicks_succ ht).trans hu, hnext, hodd'.trans hodd, hcomplete'.trans hcomplete, ?_⟩
    rw [tick_regs hu]
    exact hrendering

/-! ### The length of a frame (O32) -/

/-- Inside a frame: not back at its first dot, and the frame flags as before. -/
def StaysInFrame (s u : State) : Prop :=
  ¬ At u (-1) 0 ∧ u.seq.oddFrame = s.seq.oddFrame ∧ u.seq.frameComplete = s.seq.frameComplete

/-- A run that ends a frame after `n` ticks and not before. -/
def EndsFrameAfter (n : Nat) (s : State) : Prop :=
  ∃ t, runTicks n s = .next t ∧ At t (-1) 0 ∧ t.seq.frameComplete = true ∧ t.seq.oddFrame = !s.seq.oddFrame ∧
    ∀ k u, 0 < k → k < n → runTicks k s = .next u → StaysInFrame s u

theorem Standing.staysInFrame {d k n : Nat} {s u : State} (h : Standing d s) (hn : d + n ≤ 89341)
    (hskip : 339 < d ∨ d + n ≤ 339 ∨ (s.seq.oddFrame && s.regs.renderingEnabled) = false) (hk : k ≤ n) (hd : 0 < d + k)
    (hu : runTicks k s = .next u) : Standing (d + k) u ∧ StaysInFrame s u := by
  obtain ⟨t, ht, hstand, hodd, hcomplete, -⟩ := h.run hn hskip k hk
  obtain rfl : t = u := by
    rw [hu] at ht
    cases ht
    rfl
  refine ⟨hstand, fun hat => ?_, hodd, hcomplete⟩
  rw [hstand.at_iff (by decide) (by decide)] at hat
  exact absurd hat (by omega)

/-- From a dot past the skip, or without one, the rest of the frame takes as many ticks as it has dots. -/
theorem Standing.endsFrameAfter {d n : Nat} {s : State} (h : Standing d s) (hn : d + n = 89341)
    (hskip : 339 < d ∨ (s.seq.oddFrame && s.regs.renderingEnabled) = false) : EndsFrameAfter (n + 1) s := by
  have hskip' : 339 < d ∨ d + n ≤ 339 ∨ (s.seq.oddFrame && s.regs.renderingEnabled) = false := by tauto
  obtain ⟨t, ht, hstand, hodd, hcomplete, -⟩ := h.run (by omega) hskip' n (by omega)
  obtain ⟨u, hu⟩ := hstand.tick_answers
  rw [hn] at hstand
  obtain ⟨hat, hdone, hflip⟩ := hstand.last_tick hu
  refine ⟨u, (runTicks_succ ht).trans hu, hat, hdone, by rw [hflip, hodd], fun k w hk hlt hw => ?_⟩
  exact (h.staysInFrame (by omega) hskip' (by omega) (by omega) hw).2

/-- The tick at (−1, 339) of an odd frame with rendering enabled goes to (0, 0) (R223, D40). -/
theorem Standing.skip_tick {s t : State} (h : Standing 339 s) (hcart : s.cart.NeverFails)
    (hskip : (s.seq.oddFrame && s.regs.renderingEnabled) = true) (ht : exec .tick s = .next t) :
    Standing 341 t ∧ t.seq.oddFrame = s.seq.oddFrame ∧ t.seq.frameComplete = s.seq.frameComplete := by
  rw [Bool.and_eq_true_iff, ← h.latch rfl] at hskip
  have hat : At s (-1) 339 := (h.at_iff (by decide) (by decide)).mpr rfl
  have hseq := tick_seq_of_skip ht (skipsDot_iff.mpr ⟨hat, hskip⟩)
  refine ⟨⟨tick_seq_inRange ht h.inRange, ?_, .inl (tick_neverFails ht hcart), by omega⟩, ?_, ?_⟩
  · simp [hseq, Sequencer.dots]
  · rw [hseq]
  · rw [hseq]

/-- A run, then a run that ends the frame. -/
theorem EndsFrameAfter.after {m n : Nat} {s t : State} (hrun : runTicks m s = .next t) (ht : EndsFrameAfter n t)
    (hodd : t.seq.oddFrame = s.seq.oddFrame) (hcomplete : t.seq.frameComplete = s.seq.frameComplete)
    (hbefore : ∀ k u, 0 < k → k ≤ m → runTicks k s = .next u → StaysInFrame s u) : EndsFrameAfter (m + n) s := by
  obtain ⟨u, hu, hat, hdone, hflip, hstay⟩ := ht
  refine ⟨u, by rw [runTicks_add, hrun]; exact hu, hat, hdone, by rw [hflip, hodd], fun k w hk hlt hw => ?_⟩
  by_cases hkm : k ≤ m
  · exact hbefore k w hk hkm hw
  · obtain ⟨j, rfl⟩ : ∃ j, k = m + j := ⟨k - m, by omega⟩
    rw [runTicks_add, hrun] at hw
    obtain ⟨hno, h1, h2⟩ := hstay j w (by omega) (by omega) hw
    exact ⟨hno, h1.trans hodd, h2.trans hcomplete⟩

theorem endsFrameAfter_of_skip {s : State} (h : Standing 0 s) (hcart : s.cart.NeverFails)
    (hskip : (s.seq.oddFrame && s.regs.renderingEnabled) = true) : EndsFrameAfter (340 + 89001) s := by
  obtain ⟨t, ht, hstand, hodd, hcomplete, hrendering⟩ := h.run (n := 339) (by omega) (.inr (.inl (by omega))) 339 le_rfl
  have hcart' : t.cart.NeverFails := runTicks_keeps (fun _ _ hn hu => tick_neverFails hu hn) hcart ht
  obtain ⟨u, hu⟩ := hstand.tick_answers
  obtain ⟨hstand', hodd', hcomplete'⟩ := hstand.skip_tick hcart' (by rw [hodd, hrendering, hskip]) hu
  have hrun : runTicks 340 s = .next u := (runTicks_succ ht).trans hu
  refine EndsFrameAfter.after hrun (hstand'.endsFrameAfter (n := 89000) (by omega) (.inl (by omega)))
    (hodd'.trans hodd) (hcomplete'.trans hcomplete) fun k w hk hle hw => ?_
  by_cases hk339 : k ≤ 339
  · exact (h.staysInFrame (n := 339) (by omega) (.inr (.inl (by omega))) hk339 (by omega) hw).2
  · obtain rfl : k = 340 := by omega
    obtain rfl : u = w := by
      rw [hrun] at hw
      cases hw
      rfl
    refine ⟨fun hat => ?_, hodd'.trans hodd, hcomplete'.trans hcomplete⟩
    rw [hstand'.at_iff (by decide) (by decide)] at hat
    exact absurd hat (by decide)

/-- Settles O32: dot by dot to the end of the frame; the skip saves the one dot (−1, 340). -/
theorem frameLengthWithOddSkip : Obligations.FrameLengthWithOddSkip := by
  unfold Obligations.FrameLengthWithOddSkip
  intro s hcart hat
  have hstand : Standing 0 s := by
    obtain ⟨hl, hc⟩ := hat
    refine ⟨⟨by omega, by omega, by omega⟩, ?_, .inl hcart, by omega⟩
    rw [Sequencer.dots, hl, hc]
    rfl
  cases hskip : s.seq.oddFrame && s.regs.renderingEnabled with
  | true => exact endsFrameAfter_of_skip hstand hcart hskip
  | false => exact hstand.endsFrameAfter (n := 89341) (by omega) (.inr hskip)

end Sys2Proof.Machine

/-! ## The NMI over runs of ticks (60_exceptions.md R239 to R241, 45_frame_driver.md R219) -/

namespace Sys2Proof.Machine
open Sys2Proof.Spec

/-! ### The counters after they are armed (O25) -/

/-- The counters and the flag `m` steps after they were armed: two steps of hold, then fourteen of delay (D8, D9). -/
def NmiState.Armed (m : Nat) (n : NmiState) : Prop :=
  n.delay = (if m ≤ 2 then 14 else 16 - m) ∧ n.hold = 2 - m ∧ n.flag = decide (16 ≤ m)

theorem NmiState.Armed.step {m : Nat} {n : NmiState} (h : n.Armed m)
    (hline : m < 2 → n.output = true ∧ n.occurred = true) : (nmiStepped n).Armed (m + 1) := by
  obtain ⟨hdelay, hhold, hflag⟩ := h
  by_cases hm : m < 2
  · rw [if_pos (by omega)] at hdelay
    rw [nmiStepped_of_hold (by omega) (by omega) (hline hm)]
    refine ⟨?_, ?_, ?_⟩
    · rw [if_pos (by omega)]
      exact hdelay
    · show n.hold - 1 = _
      omega
    · rw [hflag, decide_eq_false (by omega), decide_eq_false (by omega)]
  · have hdelay' : n.delay = 16 - m := by
      split at hdelay
      · omega
      · exact hdelay
    by_cases hdone : 16 ≤ m
    · rw [nmiStepped_of_idle (by omega)]
      refine ⟨?_, ?_, ?_⟩
      · rw [if_neg (by omega)]
        omega
      · omega
      · rw [hflag, decide_eq_true hdone, decide_eq_true (by omega)]
    · rw [nmiStepped_of_delay (by omega) (by omega)]
      refine ⟨?_, ?_, ?_⟩
      · rw [if_neg (by omega)]
        show n.delay - 1 = _
        omega
      · show n.hold = _
        omega
      · show (n.flag || decide (n.delay = 1)) = _
        rw [hflag, decide_eq_false hdone, Bool.false_or]
        exact decide_eq_decide.mpr (by omega)

/-- Away from (241, 1) the counters are those of step (a), and the line falls only at (−1, 1). -/
theorem tick_nmi_counters {s t : State} (h : exec .tick s = .next t) (hdot : ¬ At s 241 1) {m : Nat}
    (harmed : (nmiStepped s.nmi).Armed m) : t.nmi.Armed m ∧ t.nmi.output = s.nmi.output ∧
      (¬ At s (-1) 1 → t.nmi.occurred = s.nmi.occurred) := by
  by_cases hpre : At s (-1) 1
  · rw [tick_nmi_at_preRender h hpre]
    exact ⟨harmed, rfl, fun hno => absurd hpre hno⟩
  · rw [tick_nmi_elsewhere h hpre hdot]
    exact ⟨harmed, rfl, fun _ => rfl⟩

/-- Settles O25: the counters are armed, and each tick is one step of them. -/
theorem nmiRaisedSixteenTicksAfterArming : Obligations.NmiRaisedSixteenTicksAfterArming := by
  unfold Obligations.NmiRaisedSixteenTicksAfterArming
  intro s hcart hdelay hhold houtput hoccurred hflag hpre hvblank k hk
  have hstart : s.nmi.Armed 0 := ⟨hdelay, hhold, hflag⟩
  have hrun := run_induction (n := 16) (s := s)
    (Q := fun k t => t.nmi.Armed k ∧ t.nmi.output = true ∧ (k ≤ 1 → t.nmi.occurred = true) ∧ (k = 0 → ¬ At t (-1) 1))
    ⟨hstart, houtput, fun _ => hoccurred, fun _ => hpre⟩ fun k t u hlt hrun hQ hu => by
      obtain ⟨harmed, hout, hocc, hno⟩ := hQ
      obtain ⟨h1, h2, h3⟩ := tick_nmi_counters hu (hvblank k t hlt hrun)
        (harmed.step fun hm => ⟨hout, hocc (by omega)⟩)
      exact ⟨h1, h2.trans hout, fun hle => (h3 (hno (by omega))).trans (hocc (by omega)), fun hzero => by omega⟩
  obtain ⟨t, ht, -⟩ := runTicks_total k hcart
  obtain ⟨⟨h1, h2, h3⟩, -⟩ := hrun k hk t ht
  refine ⟨t, ht, h3.trans (decide_eq_decide.mpr (by omega)), h1, h2⟩

/-! ### To the end of the frame -/

/-- The run stands at dot `d` of its frame, or has just ended it. -/
def Reaches (d : Nat) (s : State) : Prop := (d ≤ 89341 → Standing d s) ∧ (d = 89342 → At s (-1) 0)

/-- What every tick inside the frame carries from dot to dot holds at the end of a run in it. -/
theorem Reaches.run {Q : Nat → State → Prop} {d : Nat} {s : State} (h : Reaches d s) (h0 : Q d s)
    (hskip : 339 < d ∨ (s.seq.oddFrame && s.regs.renderingEnabled) = false)
    (hstep : ∀ e t u, d ≤ e → Standing e t → Q e t → exec .tick t = .next u → Q (e + 1) u) (n : Nat)
    (hn : d + n ≤ 89342) : ∃ t, runTicks n s = .next t ∧ Reaches (d + n) t ∧ Q (d + n) t := by
  cases n with
  | zero => exact ⟨s, rfl, h, h0⟩
  | succ n =>
    have hstand := h.1 (by omega)
    have hrun := hstand.run (n := n) (by omega) (by tauto)
    obtain ⟨t, ht, hstand', -⟩ := hrun n le_rfl
    have hQ := run_induction (Q := fun k t => Q (d + k) t) (n := n) h0 (fun k t u hlt hk hQ hu => by
      obtain ⟨t', ht', hstand', -⟩ := hrun k (by omega)
      obtain rfl : t' = t := by
        rw [hk] at ht'
        cases ht'
        rfl
      exact hstep (d + k) t' u (by omega) hstand' hQ hu) n le_rfl t ht
    obtain ⟨u, hu⟩ := hstand'.tick_answers
    refine ⟨u, (runTicks_succ ht).trans hu, ⟨fun hd => ?_, fun hd => ?_⟩, hstep (d + n) t u (Nat.le_add_right d n) hstand' hQ hu⟩
    · obtain ⟨t', ht', hstand'', -⟩ := hstand.run (n := n + 1) (by omega) (by tauto) (n + 1) le_rfl
      rw [runTicks_succ ht, hu] at ht'
      cases ht'
      exact hstand''
    · rw [show d + n = 89341 by omega] at hstand'
      exact (hstand'.last_tick hu).1

/-! ### The start of vblank on the way (O33) -/

/-- NMI enabled, vblank not begun, nothing pending and nothing suppressed. -/
structure AwaitsVblank (s : State) : Prop where
  status : bit s.regs.status 7 = false
  output : s.nmi.output = true
  occurred : s.nmi.occurred = false
  previous : s.nmi.previous = false
  suppressVblank : s.nmi.suppressVblank = false
  suppressNmi : s.nmi.suppressNmi = false
  flag : s.nmi.flag = false
  delay : s.nmi.delay = 0

/-- In vblank with the line high, `m` ticks after it began. -/
structure InVblank (m : Nat) (s : State) : Prop where
  status : bit s.regs.status 7 = true
  output : s.nmi.output = true
  occurred : s.nmi.occurred = true
  suppressVblank : s.nmi.suppressVblank = false
  suppressNmi : s.nmi.suppressNmi = false
  armed : s.nmi.Armed m

/-- At dot `d` of a frame whose vblank nothing disturbs: dot 82,523 is (241, 1), whose tick begins it. -/
def UndisturbedAt (d : Nat) (s : State) : Prop :=
  (d ≤ 82523 → AwaitsVblank s) ∧ (82524 ≤ d → InVblank (d - 82524) s)

section
variable {d : Nat} {s t : State}

theorem Standing.at_vblank_iff (h : Standing d s) : At s 241 1 ↔ d = 82523 := h.at_iff (by decide) (by decide)

theorem AwaitsVblank.tick (h : AwaitsVblank s) (hdot : ¬ At s 241 1) (ht : exec .tick s = .next t) :
    AwaitsVblank t := by
  have hstatus : bit t.regs.status 7 = false := by
    rw [tick_vblankBit ht, if_neg (c := At s 241 1 ∧ s.nmi.suppressVblank = false) fun hc => hdot hc.1, h.status,
      ite_self]
  have hidle := nmiStepped_of_idle h.delay
  by_cases hpre : At s (-1) 1
  · have hnmi := tick_nmi_at_preRender ht hpre
    rw [hidle] at hnmi
    refine ⟨hstatus, ?_, ?_, ?_, ?_, ?_, ?_, ?_⟩ <;> rw [hnmi]
    · exact h.output
    · exact h.suppressVblank
    · exact h.flag
    · exact h.delay
  · have hnmi := tick_nmi_elsewhere ht hpre hdot
    rw [hidle] at hnmi
    exact ⟨hstatus, by rw [hnmi, h.output], by rw [hnmi, h.occurred], by rw [hnmi, h.previous],
      by rw [hnmi, h.suppressVblank], by rw [hnmi, h.suppressNmi], by rw [hnmi, h.flag], by rw [hnmi, h.delay]⟩

theorem AwaitsVblank.tick_at_vblank (h : AwaitsVblank s) (hdot : At s 241 1) (ht : exec .tick s = .next t) :
    InVblank 0 t := by
  have hstatus := tick_vblankBit ht
  rw [if_neg (by omega), if_pos ⟨hdot, h.suppressVblank⟩] at hstatus
  have hnmi := tick_nmi_at_vblank ht hdot
  rw [nmiStepped_of_idle h.delay, vblankNmi_of_not_suppressNmi h.suppressNmi] at hnmi
  simp only [h.suppressVblank, h.output, h.previous, Bool.false_eq_true, if_false, and_self, if_true] at hnmi
  refine ⟨hstatus, ?_, ?_, ?_, ?_, ?_⟩ <;> rw [hnmi]
  · exact h.suppressNmi
  · exact ⟨rfl, rfl, h.flag⟩

theorem InVblank.tick {m : Nat} (h : InVblank m s) (hpre : ¬ At s (-1) 1) (hdot : ¬ At s 241 1)
    (ht : exec .tick s = .next t) : InVblank (m + 1) t := by
  have hstatus := tick_vblankBit ht
  rw [if_neg hpre, if_neg fun hc => hdot hc.1, h.status] at hstatus
  have hnmi := tick_nmi_elsewhere ht hpre hdot
  refine ⟨hstatus, ?_, ?_, ?_, ?_, ?_⟩ <;> rw [hnmi]
  · exact h.output
  · exact h.occurred
  · exact h.suppressVblank
  · exact h.suppressNmi
  · exact h.armed.step fun _ => ⟨h.output, h.occurred⟩

theorem UndisturbedAt.tick (h : UndisturbedAt d s) (hstand : Standing d s) (ht : exec .tick s = .next t) :
    UndisturbedAt (d + 1) t := by
  obtain ⟨hbefore, hafter⟩ := h
  have hvblank := hstand.at_vblank_iff
  have hpre : At s (-1) 1 ↔ d = 1 := hstand.at_iff (by decide) (by decide)
  refine ⟨fun hd => (hbefore (by omega)).tick (by omega) ht, fun hd => ?_⟩
  by_cases hrise : d = 82523
  · subst hrise
    exact (hbefore le_rfl).tick_at_vblank (hvblank.mpr rfl) ht
  · have hnext := (hafter (by omega)).tick (by omega) (by omega) ht
    rwa [show d + 1 - 82524 = d - 82524 + 1 by omega]

theorem UndisturbedAt.status (h : UndisturbedAt d s) : bit s.regs.status 7 = decide (82524 ≤ d) := by
  by_cases hd : 82524 ≤ d
  · rw [(h.2 hd).status, decide_eq_true hd]
  · rw [(h.1 (by omega)).status, decide_eq_false hd]

theorem UndisturbedAt.flag (h : UndisturbedAt d s) : s.nmi.flag = decide (82540 ≤ d) := by
  by_cases hd : 82524 ≤ d
  · obtain ⟨-, -, hflag⟩ := (h.2 hd).armed
    rw [hflag]
    exact decide_eq_decide.mpr (by omega)
  · rw [(h.1 (by omega)).flag, decide_eq_false (by omega)]

end

/-- After `RESET` and a `W.PPUCTRL` that enables the NMI: dot 0 of an even frame, vblank to come. -/
theorem awaitsVblank_after_reset {s a : State} {d : Byte} (hd : bit d 7 = true)
    (h : runOps [.reset, .wPpuCtrl d] s = .next a) : AwaitsVblank a ∧ a.seq = Sequencer.start ∧ a.cart = s.cart := by
  obtain ⟨v, -, -, -, hctrl⟩ := controlWriteStoresAndDrivesNmi (resetState s) d
  simp only [runOps, exec_reset, hctrl, Host.Outcome.next.injEq] at h
  subst h
  have hregs : (resetState s).regs = Regs.zero := by rw [resetState_eq]
  have hnmi : (resetState s).nmi = NmiState.zero := by rw [resetState_eq]
  refine ⟨⟨?_, hd, ?_, ?_, ?_, ?_, ?_, ?_⟩, by rw [resetState_eq], by rw [resetState_eq]⟩
  · simp [hregs, Regs.zero, bit]
  all_goals simp [hnmi, NmiState.zero]

/-- Settles O33: the two operations leave dot 0 of an even frame that nothing disturbs. -/
theorem vblankAndNmiAfterReset : Obligations.VblankAndNmiAfterReset := by
  unfold Obligations.VblankAndNmiAfterReset
  intro s a d hcart hd hops k hk
  obtain ⟨hawaits, hseq, hkeep⟩ := awaitsVblank_after_reset hd hops
  have hstand : Standing 0 a := by
    refine ⟨?_, ?_, .inl (by rwa [hkeep]), by omega⟩
    · rw [hseq]
      exact ⟨by decide, by decide, by decide⟩
    · rw [hseq]
      rfl
  have heven : (a.seq.oddFrame && a.regs.renderingEnabled) = false := by
    rw [hseq]
    rfl
  obtain ⟨t, ht, -, hQ⟩ := Reaches.run (Q := UndisturbedAt) ⟨fun _ => hstand, by omega⟩
    ⟨fun _ => hawaits, by omega⟩ (.inr heven) (fun e t u _ hs hQ hu => hQ.tick hs hu) k (by omega)
  rw [Nat.zero_add] at hQ
  exact ⟨t, ht, hQ.status, hQ.flag⟩

/-! ### The `$2002` race (O16) -/

/-- After a read that came too close to vblank: it is off, no NMI is pending, and the tick that would begin it is still
suppressed if it is to come. -/
structure NmiCancelled (d : Nat) (s : State) : Prop where
  status : bit s.regs.status 7 = false
  flag : s.nmi.flag = false
  delay : s.nmi.delay = 0
  suppressed : d ≤ 82523 → s.nmi.suppressVblank = true ∧ s.nmi.suppressNmi = true

/-- After a read past the hold window: vblank is off, and the NMI goes on whatever the line. -/
structure NmiGoesOn (d : Nat) (s : State) : Prop where
  past : 82526 ≤ d
  status : bit s.regs.status 7 = false
  armed : s.nmi.Armed (d - 82524)

section
variable {d : Nat} {s t : State}

theorem NmiCancelled.tick (h : NmiCancelled d s) (hd : 82522 ≤ d) (hstand : Standing d s)
    (ht : exec .tick s = .next t) : NmiCancelled (d + 1) t := by
  have hvblank := hstand.at_vblank_iff
  have hpre : ¬ At s (-1) 1 := by
    rw [hstand.at_iff (by decide) (by decide)]
    show ¬ d = 1
    omega
  have hidle := nmiStepped_of_idle h.delay
  have hstatus := tick_vblankBit ht
  rw [if_neg hpre, h.status] at hstatus
  by_cases hdot : At s 241 1
  · obtain ⟨hv, hn⟩ := h.suppressed (by omega)
    have hnmi := tick_nmi_at_vblank ht hdot
    rw [hidle, vblankNmi_of_suppressNmi hn] at hnmi
    rw [if_neg (by simp [hv])] at hstatus
    exact ⟨hstatus, by rw [hnmi], by rw [hnmi], by omega⟩
  · have hnmi := tick_nmi_elsewhere ht hpre hdot
    rw [hidle] at hnmi
    rw [if_neg fun hc => hdot hc.1] at hstatus
    exact ⟨hstatus, by rw [hnmi, h.flag], by rw [hnmi, h.delay], fun hle => by rw [hnmi]; exact h.suppressed (by omega)⟩

theorem NmiGoesOn.tick (h : NmiGoesOn d s) (hstand : Standing d s) (ht : exec .tick s = .next t) :
    NmiGoesOn (d + 1) t := by
  have hpast := h.past
  have hvblank := hstand.at_vblank_iff
  have hdot : ¬ At s 241 1 := by omega
  have hstatus := tick_vblankBit ht
  rw [if_neg (c := At s 241 1 ∧ _) fun hc => hdot hc.1, h.status, ite_self] at hstatus
  obtain ⟨harmed, -, -⟩ := tick_nmi_counters ht hdot (h.armed.step (by omega))
  refine ⟨by omega, hstatus, ?_⟩
  rwa [show d + 1 - 82524 = d - 82524 + 1 by omega]

theorem Standing.congr (h : Standing d s) (hseq : t.seq = s.seq) (hcart : t.cart = s.cart)
    (hrendering : t.regs.renderingEnabled = s.regs.renderingEnabled) : Standing d t := by
  obtain ⟨h1, h2, h3, h4⟩ := h
  exact ⟨by rwa [hseq], by rwa [hseq], by rwa [hcart], by rwa [hseq, hrendering]⟩

theorem Reaches.congr (h : Reaches d s) (hseq : t.seq = s.seq) (hcart : t.cart = s.cart)
    (hrendering : t.regs.renderingEnabled = s.regs.renderingEnabled) : Reaches d t := by
  obtain ⟨h1, h2⟩ := h
  refine ⟨fun hd => (h1 hd).congr hseq hcart hrendering, fun hd => ?_⟩
  have hat := h2 hd
  unfold At at *
  rwa [hseq]

/-- Where the read comes on line 241. -/
theorem Reaches.at_iff (h : Reaches d s) {c : Nat} (hd : d ≤ 89342) (hc : c ≤ 340) :
    At s 241 c ↔ d = 82522 + c := by
  by_cases hlast : d = 89342
  · have hat := h.2 hlast
    omega
  · exact (h.1 (by omega)).at_iff (by decide) hc

end

theorem bit_statusByte (r : Regs) : bit (statusByte r) 7 = bit r.status 7 := by
  simp [statusByte, bit]

theorem bit_clearVblank (x : Byte) : bit (setBit x vblankBit false) 7 = false :=
  bit_setBit_same x 7 false (by decide)

/-- What the read leaves for the rest of the frame, by how many ticks after (241, 0) it came. -/
def AfterStatusRead (k d : Nat) (s : State) : Prop :=
  if k = 0 then UndisturbedAt d s else if k ≤ 3 then NmiCancelled d s else NmiGoesOn d s

theorem AfterStatusRead.tick {k d : Nat} {s t : State} (h : AfterStatusRead k d s) (hd : 82522 ≤ d)
    (hstand : Standing d s) (ht : exec .tick s = .next t) : AfterStatusRead k (d + 1) t := by
  unfold AfterStatusRead at *
  split_ifs at * with h0 h3
  · exact h.tick hstand ht
  · exact h.tick hd hstand ht
  · exact h.tick hstand ht

theorem AfterStatusRead.flags {k j : Nat} {s : State} (h : AfterStatusRead k (82522 + k + j) s) :
    bit s.regs.status 7 = decide (k = 0 ∧ 2 ≤ j) ∧ s.nmi.flag = decide ((k = 0 ∨ 4 ≤ k) ∧ 18 ≤ k + j) := by
  unfold AfterStatusRead at h
  split_ifs at h with h0 h3
  · rw [h.status, h.flag]
    exact ⟨decide_eq_decide.mpr (by omega), decide_eq_decide.mpr (by omega)⟩
  · rw [h.status, h.flag, decide_eq_false (by omega), decide_eq_false (by omega)]
    exact ⟨rfl, rfl⟩
  · obtain ⟨-, -, hflag⟩ := h.armed
    rw [h.status, hflag, decide_eq_false (by omega)]
    exact ⟨rfl, decide_eq_decide.mpr (by omega)⟩

/-- The read itself, `k` ticks after (241, 0) of an undisturbed frame. -/
theorem statusRead_race {k : Nat} {a : State} (hk : k ≤ 6820) (hreach : Reaches (82522 + k) a)
    (h : UndisturbedAt (82522 + k) a) : ∃ b, exec .rPpuStatus a = .next b ∧ b.answer = .byte (statusByte a.regs) ∧
      Reaches (82522 + k) b ∧ AfterStatusRead k (82522 + k) b ∧
      b.nmi.suppressVblank = decide (k = 1) ∧ b.nmi.suppressNmi = decide (1 ≤ k ∧ k ≤ 3) ∧
      (k = 2 ∨ k = 3 → b.nmi.delay = 0 ∧ b.nmi.hold = 0 ∧ b.nmi.flag = false) := by
  obtain ⟨hbefore, hafter⟩ := h
  have hat {c : Nat} (hc : c ≤ 340) : At a 241 c ↔ k = c := by
    rw [hreach.at_iff (by omega) hc]
    omega
  have hone := hat (c := 1) (by omega)
  have htwo := hat (c := 2) (by omega)
  have hthree := hat (c := 3) (by omega)
  refine ⟨_, exec_rPpuStatus a, rfl, hreach.congr rfl rfl rfl, ?_⟩
  unfold AfterStatusRead
  by_cases h0 : k = 0
  · have hawaits := hbefore (by omega)
    rw [if_pos h0, statusRace_elsewhere (by omega) (by omega)]
    refine ⟨⟨fun _ => ?_, by omega⟩, ?_, ?_, by omega⟩
    · exact ⟨bit_clearVblank _, hawaits.output, rfl, rfl, hawaits.suppressVblank, hawaits.suppressNmi, hawaits.flag,
        hawaits.delay⟩
    · rw [decide_eq_false (by omega)]
      exact hawaits.suppressVblank
    · rw [decide_eq_false (by omega)]
      exact hawaits.suppressNmi
  · rw [if_neg h0]
    by_cases h1 : k = 1
    · have hawaits := hbefore (by omega)
      rw [if_pos (by omega), statusRace_at_one (by omega), decide_eq_true h1, decide_eq_true (by omega)]
      exact ⟨⟨bit_clearVblank _, hawaits.flag, hawaits.delay, fun _ => ⟨rfl, rfl⟩⟩, rfl, rfl, by omega⟩
    · have hvblank := hafter (by omega)
      by_cases h23 : k ≤ 3
      · rw [if_pos h23, statusRace_at_two_or_three (by omega), decide_eq_false h1, decide_eq_true (by omega)]
        exact ⟨⟨bit_clearVblank _, rfl, rfl, by omega⟩, hvblank.suppressVblank, rfl, fun _ => ⟨rfl, rfl, rfl⟩⟩
      · rw [if_neg h23, statusRace_elsewhere (by omega) (by omega), decide_eq_false h1, decide_eq_false (by omega)]
        exact ⟨⟨by omega, bit_clearVblank _, hvblank.armed⟩, hvblank.suppressVblank, hvblank.suppressNmi, by omega⟩

/-- Settles O16: the undisturbed run to the read, the read, and the run after it. -/
theorem statusReadRaceAroundVblank : Obligations.StatusReadRaceAroundVblank := by
  unfold Obligations.StatusReadRaceAroundVblank
  intro s hinv hat hctrl hstatus hsuppressVblank hsuppressNmi hflag hdelay k j hkj
  obtain ⟨-, houtput, hoccurred, hprevious⟩ := hinv.copies
  have hstand : Standing 82522 s := by
    refine ⟨hinv.position, (at_iff_dots hinv.position (by decide) (by decide)).mp hat, .inr (by omega), by omega⟩
  have hoff : s.nmi.occurred = false := hoccurred.trans hstatus
  have hawaits : UndisturbedAt 82522 s := by
    refine ⟨fun _ => ⟨hstatus, houtput.trans hctrl, hoff, ?_, hsuppressVblank, hsuppressNmi, hflag, hdelay⟩, by omega⟩
    rw [hprevious, nmiLine, hoff, Bool.and_false]
  obtain ⟨a, ha, hreach, hbefore⟩ := Reaches.run (Q := UndisturbedAt) ⟨fun _ => hstand, by omega⟩ hawaits
    (.inl (by omega)) (fun e t u _ hs hQ hu => hQ.tick hs hu) k (by omega)
  obtain ⟨b, hb, hanswer, hreach', hafter, hv, hn, hcancel⟩ := statusRead_race (by omega) hreach hbefore
  obtain ⟨c, hc, -, hend⟩ := hreach'.run hafter (.inl (by omega))
    (fun e t u he hs hQ hu => hQ.tick (by omega) hs hu) j (by omega)
  obtain ⟨hstatusC, hflagC⟩ := hend.flags
  refine ⟨a, b, c, _, ha, hb, hanswer, hc, ?_, hv, hn, hcancel, hstatusC, hflagC⟩
  rw [bit_statusByte, hbefore.status]
  exact decide_eq_decide.mpr (by omega)

end Sys2Proof.Machine

/-! ## A whole evaluation (43_sprites.md R182 to R186): dots 65–256, one decision every two dots -/

namespace Sys2Proof.Machine
open Sys2Proof.Spec

/-! ### The sprites found so far -/

section
variable (ctrl : Byte) (sl : Int) (oam : Memory)

/-- The sprites in range of the line among the first `n`. -/
def onLineBelow (n : Nat) : List Nat := (List.range n).filter fun k => inRange ctrl sl (oamEntry oam k).y

theorem onLineBelow_all : onLineBelow ctrl sl oam 64 = spritesOnLine ctrl sl oam := rfl

theorem onLineBelow_zero : onLineBelow ctrl sl oam 0 = [] := rfl

theorem onLineBelow_succ (n : Nat) : onLineBelow ctrl sl oam (n + 1) =
    onLineBelow ctrl sl oam n ++ if inRange ctrl sl (oamEntry oam n).y then [n] else [] := by
  rw [onLineBelow, List.range_succ, List.filter_append, ← onLineBelow, List.filter_cons, List.filter_nil]

theorem onLineBelow_prefix {n : Nat} (hn : n ≤ 64) : onLineBelow ctrl sl oam n <+: spritesOnLine ctrl sl oam := by
  have hrange : List.range n <+: List.range 64 := by
    have htake := List.take_prefix n (List.range 64)
    rwa [List.take_range, Nat.min_eq_left hn] at htake
  exact hrange.filter _

/-- Evaluation has found the sprites in range among the first `n`, whole and in order. -/
structure Found (n : Nat) (e : SpriteEval) : Prop where
  count : e.count = (onLineBelow ctrl sl oam n).length
  slots : ∀ (i : Fin 8) (k : Nat), (onLineBelow ctrl sl oam n)[i.val]? = some k → e.slots[i] = oamEntry oam k

/-- What evaluation is to find on the line (43_sprites.md R184 to R186). -/
structure Selected (e : SpriteEval) : Prop where
  count : e.count = min 8 (spritesOnLine ctrl sl oam).length
  zeroPossible : e.zeroPossible = inRange ctrl sl (Memory.read oam 0)
  slots : ∀ (i : Fin 8) (k : Nat), (spritesOnLine ctrl sl oam)[i.val]? = some k → e.slots[i] = oamEntry oam k

/-- `j` decisions into evaluation, in normal mode: the cursors, the sprites found below `n`, and the bytes of sprite `n`
copied so far. -/
structure Scanning (j : Nat) (e : SpriteEval) : Prop where
  overflowMode : e.overflowMode = false
  done : e.done = false
  n_lt : e.n < 64
  count_lt : e.count < 8
  decisions : j = e.n + 3 * e.count + e.m.toNat
  found : Found ctrl sl oam e.n e
  hit : e.m ≠ 0#2 → inRange ctrl sl (oamEntry oam e.n).y = true
  copied : ∀ i : Fin 8, i.val = e.count → ∀ k < e.m.toNat, slotByte e.slots[i] k = slotByte (oamEntry oam e.n) k
  zeroPossible : e.zeroPossible = (decide (e.n ≠ 0 ∨ e.m ≠ 0#2) && inRange ctrl sl (Memory.read oam 0))

/-- `j` decisions into evaluation: it scans, or it has found its sprites and is done or looks for an overflow. -/
def Evaluating (j : Nat) (e : SpriteEval) : Prop :=
  Scanning ctrl sl oam j e ∨
    (Selected ctrl sl oam e ∧ e.count ≤ 8 ∧ (e.done = true ∨ (e.overflowMode = true ∧ e.n < 64 ∧ j = e.n + 24)))

end

section
variable {ctrl : Byte} {sl : Int} {oam : Memory}

theorem slotByte_oamEntry (oam : Memory) (n : Nat) {k : Nat} (hk : k < 4) :
    slotByte (oamEntry oam n) k = Memory.read oam (4 * n + k) := by
  interval_cases k <;> rfl

theorem slot_ext_slotByte {a b : Slot} (h : ∀ k < 4, slotByte a k = slotByte b k) : a = b :=
  Slot.ext (h 0 (by decide)) (h 1 (by decide)) (h 2 (by decide)) (h 3 (by decide))

/-- With all 64 sprites seen, or eight found, the selection is made. -/
theorem Found.selected {n : Nat} {e : SpriteEval} (h : Found ctrl sl oam n e) (hn : n ≤ 64) (hle : e.count ≤ 8)
    (hend : n = 64 ∨ e.count = 8) (hzero : e.zeroPossible = inRange ctrl sl (Memory.read oam 0)) :
    Selected ctrl sl oam e := by
  obtain ⟨hcount, hslots⟩ := h
  have hprefix := onLineBelow_prefix ctrl sl oam hn
  have hlen := hprefix.length_le
  by_cases hall : n = 64
  · subst hall
    rw [onLineBelow_all] at hcount hslots
    exact ⟨by omega, hzero, hslots⟩
  · have height : e.count = 8 := by tauto
    refine ⟨by omega, hzero, fun i k hk => hslots i k ?_⟩
    obtain ⟨rest, hrest⟩ := hprefix
    rwa [← hrest, List.getElem?_append_left (by omega)] at hk

theorem Scanning.start (e : SpriteEval) : Scanning ctrl sl oam 0 (evalReset e) := by
  refine ⟨rfl, rfl, by simp [evalReset], by simp [evalReset], by simp [evalReset], ⟨rfl, ?_⟩, ?_, ?_, ?_⟩
  · simp [evalReset, onLineBelow_zero]
  · simp [evalReset]
  · simp [evalReset]
  · simp [evalReset]

/-- The byte a decision of the scan looks at. -/
theorem Scanning.read {j : Nat} {e : SpriteEval} (h : Scanning ctrl sl oam j e) :
    Memory.read oam ((e.n * 4 + e.m.toNat) % 256) = slotByte (oamEntry oam e.n) e.m.toNat := by
  have hn := h.n_lt
  have hm := e.m.isLt
  rw [slotByte_oamEntry _ _ hm]
  congr 1
  omega

theorem Scanning.withLatch {j : Nat} {e : SpriteEval} (h : Scanning ctrl sl oam j e) (b : Byte) :
    Scanning ctrl sl oam j { e with readLatch := b } := by
  obtain ⟨h1, h2, h3, h4, h5, ⟨h6, h7⟩, h8, h9, h10⟩ := h
  exact ⟨h1, h2, h3, h4, h5, ⟨h6, h7⟩, h8, h9, h10⟩

theorem setSlotByte_getElem_ne (v : Vector Slot 8) (c : Nat) (m : BitVec 2) (b : Byte) {i : Fin 8} (h : i.val ≠ c) :
    (setSlotByte v c m b)[i] = v[i] := by
  unfold setSlotByte
  split
  next hc => exact Vector.getElem_set_ne hc i.isLt (Ne.symm h)
  next => rfl

/-- The slots of the sprites found are no longer written. -/
theorem Found.slots_setSlotByte {n : Nat} {e : SpriteEval} (h : Found ctrl sl oam n e) (m : BitVec 2) (b : Byte)
    {i : Fin 8} {k : Nat} (hk : (onLineBelow ctrl sl oam n)[i.val]? = some k) :
    (setSlotByte e.slots e.count m b)[i] = oamEntry oam k := by
  have hlt : i.val < e.count := by
    rw [h.count]
    exact (List.getElem?_eq_some_iff.mp hk).1
  rw [setSlotByte_getElem_ne _ _ _ _ (by omega), h.slots i k hk]

/-! ### One decision of the scan -/

section
variable {j : Nat} {e : SpriteEval} (h : Scanning ctrl sl oam j e)
  (hlatch : e.readLatch = slotByte (oamEntry oam e.n) e.m.toNat)
include h

/-- The flag after the Y test of sprite `n`, hit or miss. -/
theorem Scanning.zeroPossible_succ (hm : e.m = 0#2) (found : Bool)
    (hfound : inRange ctrl sl (oamEntry oam e.n).y = found) :
    (e.zeroPossible || (found && decide (e.n = 0))) = inRange ctrl sl (Memory.read oam 0) := by
  rw [h.zeroPossible]
  by_cases h0 : e.n = 0
  · rw [h0] at hfound
    have hzero : inRange ctrl sl (Memory.read oam 0) = found := hfound
    simp [h0, hm, hzero]
  · simp [h0]

/-- A sprite not in range is passed over. -/
theorem Scanning.miss (hm : e.m = 0#2) (hmiss : inRange ctrl sl (oamEntry oam e.n).y = false) :
    Evaluating ctrl sl oam (j + 1) (evalDecide false e) := by
  have hlt := h.n_lt
  have hcount := h.count_lt
  have hpairs := h.decisions
  have hsame : onLineBelow ctrl sl oam (e.n + 1) = onLineBelow ctrl sl oam e.n := by
    rw [onLineBelow_succ, hmiss, if_neg (by decide), List.append_nil]
  have hzero := h.zeroPossible_succ hm false hmiss
  rw [Bool.false_and, Bool.or_false] at hzero
  obtain ⟨hfoundCount, hfoundSlots⟩ := h.found
  rw [← hsame] at hfoundCount hfoundSlots
  rw [evalDecide_y_miss h.overflowMode hm h.done]
  by_cases hend : e.n + 1 = 64
  · refine .inr ⟨Found.selected (n := e.n + 1) ⟨hfoundCount, hfoundSlots⟩ (by omega) hcount.le (.inl hend) hzero,
      hcount.le, .inl (decide_eq_true hend)⟩
  · refine .inl ⟨h.overflowMode, decide_eq_false hend, show e.n + 1 < 64 by omega, hcount, ?_,
      ⟨hfoundCount, hfoundSlots⟩, fun hne => absurd hm hne, fun i _ k hk => ?_, ?_⟩
    · show j + 1 = e.n + 1 + 3 * e.count + e.m.toNat
      omega
    · rw [hm] at hk
      exact absurd hk (Nat.not_lt_zero k)
    · rw [hzero, decide_eq_true (.inl (Nat.succ_ne_zero e.n)), Bool.true_and]

include hlatch

/-- The slot being filled after byte `m` of sprite `n` is stored. -/
theorem Scanning.copied_succ {i : Fin 8} (hi : i.val = e.count) {k : Nat} (hk : k ≤ e.m.toNat) :
    slotByte (setSlotByte e.slots e.count e.m e.readLatch)[i] k = slotByte (oamEntry oam e.n) k := by
  have hm := e.m.isLt
  rw [slotByte_setSlotByte _ h.count_lt _ _ _ (by omega)]
  by_cases hlast : k = e.m.toNat
  · rw [if_pos ⟨hi, hlast⟩, hlast, hlatch]
  · rw [if_neg fun hc => hlast hc.2, h.copied i hi k (by omega)]

/-- The Y byte of a sprite in range is stored. -/
theorem Scanning.hitY (hm : e.m = 0#2) (hhit : inRange ctrl sl (oamEntry oam e.n).y = true) :
    Evaluating ctrl sl oam (j + 1) (evalDecide true e) := by
  have hzero := h.zeroPossible_succ hm true hhit
  rw [Bool.true_and] at hzero
  have hpairs := h.decisions
  rw [hm] at hpairs
  rw [evalDecide_y_hit h.overflowMode hm h.count_lt]
  refine .inl ⟨h.overflowMode, h.done, h.n_lt, h.count_lt, congrArg (· + 1) hpairs,
    ⟨h.found.count, fun i k hk => h.found.slots_setSlotByte _ _ hk⟩, fun _ => hhit, fun i hi k hk => ?_, ?_⟩
  · exact h.copied_succ hlatch hi (Nat.le_of_lt_succ (Nat.lt_of_lt_of_le hk (by simp)))
  · rw [hzero]
    simp

/-- Bytes 1 and 2 of a sprite in range are stored. -/
theorem Scanning.copy (found : Bool) (h0 : e.m ≠ 0#2) (h3 : e.m ≠ 3#2) :
    Evaluating ctrl sl oam (j + 1) (evalDecide found e) := by
  have hm := e.m.isLt
  have hne3 : e.m.toNat ≠ 3 := fun hc => h3 (BitVec.eq_of_toNat_eq hc)
  have hsucc : (e.m + 1#2).toNat = e.m.toNat + 1 := by
    rw [BitVec.toNat_add, BitVec.toNat_ofNat]
    omega
  have hne0 : e.m + 1#2 ≠ 0#2 := fun hc => by
    rw [hc] at hsucc
    exact absurd hsucc (by simp)
  have hpairs := h.decisions
  rw [evalDecide_copy found h.overflowMode h0 h3]
  refine .inl ⟨h.overflowMode, h.done, h.n_lt, h.count_lt, ?_,
    ⟨h.found.count, fun i k hk => h.found.slots_setSlotByte _ _ hk⟩, fun _ => h.hit h0, fun i hi k hk => ?_, ?_⟩
  · rw [hsucc, hpairs]
    rfl
  · rw [hsucc] at hk
    exact h.copied_succ hlatch hi (by omega)
  · rw [h.zeroPossible, decide_eq_true (.inr h0), decide_eq_true (.inr hne0)]

/-- Byte 3 completes a sprite in range. -/
theorem Scanning.copyLast (found : Bool) (h3 : e.m = 3#2) :
    Evaluating ctrl sl oam (j + 1) (evalDecide found e) := by
  have h0 : e.m ≠ 0#2 := by
    rw [h3]
    decide
  have hlt := h.n_lt
  have hcount := h.count_lt
  have hpairs := h.decisions
  rw [h3] at hpairs
  have hnext : onLineBelow ctrl sl oam (e.n + 1) = onLineBelow ctrl sl oam e.n ++ [e.n] := by
    rw [onLineBelow_succ, if_pos (h.hit h0)]
  have hzero : e.zeroPossible = inRange ctrl sl (Memory.read oam 0) := by
    rw [h.zeroPossible, decide_eq_true (.inr h0), Bool.true_and]
  have hfoundCount : e.count + 1 = (onLineBelow ctrl sl oam (e.n + 1)).length := by
    rw [hnext, List.length_append, ← h.found.count]
    rfl
  have hfoundSlots (i : Fin 8) (k : Nat) (hk : (onLineBelow ctrl sl oam (e.n + 1))[i.val]? = some k) :
      (setSlotByte e.slots e.count e.m e.readLatch)[i] = oamEntry oam k := by
    by_cases hi : i.val < e.count
    · rw [hnext, List.getElem?_append_left (by rwa [← h.found.count])] at hk
      exact h.found.slots_setSlotByte _ _ hk
    · have hlt' := (List.getElem?_eq_some_iff.mp hk).1
      have hi : i.val = e.count := by omega
      rw [hnext, hi, h.found.count, List.getElem?_concat_length, Option.some.injEq] at hk
      subst hk
      exact slot_ext_slotByte fun k hk4 => h.copied_succ hlatch hi (by rw [h3]; exact Nat.le_of_lt_succ hk4)
  rw [evalDecide_copy_last found h.overflowMode h3 h.done]
  by_cases hend : e.n + 1 = 64 ∨ e.count + 1 = 8
  · refine .inr ⟨Found.selected (n := e.n + 1) ⟨hfoundCount, hfoundSlots⟩ (by omega) hcount hend hzero, hcount, ?_⟩
    by_cases hlast : e.n + 1 = 64
    · exact .inl (decide_eq_true hlast)
    · refine .inr ⟨decide_eq_true (by tauto), show e.n + 1 < 64 by omega, ?_⟩
      show j + 1 = e.n + 1 + 24
      have hthree : (3#2).toNat = 3 := rfl
      omega
  · obtain ⟨hlast, hfull⟩ := not_or.mp hend
    refine .inl ⟨decide_eq_false hfull, decide_eq_false hlast, show e.n + 1 < 64 by omega,
      show e.count + 1 < 8 by omega, ?_, ⟨hfoundCount, hfoundSlots⟩, fun hne => absurd rfl hne, fun i _ k hk => ?_, ?_⟩
    · show j + 1 = e.n + 1 + 3 * (e.count + 1) + 0
      have hthree : (3#2).toNat = 3 := rfl
      omega
    · exact absurd hk (Nat.not_lt_zero k)
    · rw [hzero, decide_eq_true (.inl (Nat.succ_ne_zero e.n)), Bool.true_and]

/-- One decision of the scan. -/
theorem Scanning.decision : Evaluating ctrl sl oam (j + 1) (evalDecide (inRange ctrl sl e.readLatch) e) := by
  by_cases h0 : e.m = 0#2
  · have hbyte : e.readLatch = (oamEntry oam e.n).y := by
      rw [hlatch, h0]
      rfl
    rw [hbyte]
    cases hfound : inRange ctrl sl (oamEntry oam e.n).y with
    | true => exact h.hitY hlatch h0 hfound
    | false => exact h.miss h0 hfound
  · by_cases h3 : e.m = 3#2
    · exact h.copyLast hlatch _ h3
    · exact h.copy hlatch _ h0 h3

end

/-! ### The two dots of a decision -/

theorem Selected.congr {e e' : SpriteEval} (h : Selected ctrl sl oam e) (hcount : e'.count = e.count)
    (hzero : e'.zeroPossible = e.zeroPossible) (hslots : e'.slots = e.slots) : Selected ctrl sl oam e' := by
  obtain ⟨h1, h2, h3⟩ := h
  exact ⟨hcount.trans h1, hzero.trans h2, by rwa [hslots]⟩

/-- The search for an overflow moves to the next sprite or ends evaluation. -/
theorem evaluating_of_overflow {j : Nat} {e : SpriteEval} (h : Selected ctrl sl oam e) (hcount : e.count ≤ 8)
    (hd : e.done = false) (ho : e.overflowMode = true) (hn : e.n < 64) (hj : j = e.n + 24) (found : Bool) :
    Evaluating ctrl sl oam (j + 1) (evalDecide found e) := by
  cases found with
  | true =>
    rw [evalDecide_overflow_hit ho]
    exact .inr ⟨h.congr rfl rfl rfl, hcount, .inl rfl⟩
  | false =>
    rw [evalDecide_overflow_miss ho hd]
    refine .inr ⟨h.congr rfl rfl rfl, hcount, ?_⟩
    by_cases hend : e.n + 1 = 64
    · exact .inl (decide_eq_true hend)
    · exact .inr ⟨ho, show e.n + 1 < 64 by omega, show j + 1 = e.n + 1 + 24 by omega⟩

/-- After dot 65, which resets and reads, the decision of dot 66. -/
theorem evaluating_of_start (e : SpriteEval) :
    Evaluating ctrl sl oam 1 (evalStep ctrl oam sl 66 (evalStep ctrl oam sl 65 e)) := by
  have hstart := (Scanning.start (ctrl := ctrl) (sl := sl) (oam := oam) e).withLatch (Memory.read oam 0)
  rw [evalStep_at_start, evalStep_of_even hstart.done (by decide)]
  exact hstart.decision rfl

/-- Two dots of evaluation, the read and the decision. -/
theorem Evaluating.step {j c : Nat} {e : SpriteEval} (h : Evaluating ctrl sl oam j e) (hodd : c % 2 = 1)
    (hc : c ≠ 65) : Evaluating ctrl sl oam (j + 1) (evalStep ctrl oam sl (c + 1) (evalStep ctrl oam sl c e)) := by
  cases hd : e.done with
  | true =>
    rw [evalStep_of_done hc hd, evalStep_of_done (by omega) hd]
    rcases h with hscan | ⟨hselected, hcount, -⟩
    · rw [hscan.done] at hd
      cases hd
    · exact .inr ⟨hselected, hcount, .inl hd⟩
  | false =>
    have hread : ({ e with readLatch := Memory.read oam ((e.n * 4 + e.m.toNat) % 256) } : SpriteEval).done = false := hd
    rw [evalStep_of_odd hc hd hodd, evalStep_of_even hread (by omega)]
    rcases h with hscan | ⟨hselected, hcount, hend⟩
    · exact (hscan.withLatch _).decision hscan.read
    · obtain ⟨ho, hn, hj⟩ := hend.resolve_left (by simp [hd])
      exact evaluating_of_overflow (e := { e with readLatch := Memory.read oam ((e.n * 4 + e.m.toNat) % 256) })
        (hselected.congr rfl rfl rfl) hcount hd ho hn hj _

end

/-! ### The whole window -/

/-- The evaluation state after `k` dots of the window. -/
def evalAfter (ctrl : Byte) (sl : Int) (oam : Memory) (e : SpriteEval) : Nat → SpriteEval
  | 0 => e
  | k + 1 => evalStep ctrl oam sl (65 + k) (evalAfter ctrl sl oam e k)

theorem evaluating_evalAfter (ctrl : Byte) (sl : Int) (oam : Memory) (e : SpriteEval) (j : Nat) :
    Evaluating ctrl sl oam (j + 1) (evalAfter ctrl sl oam e (2 * j + 2)) := by
  induction j with
  | zero => exact evaluating_of_start e
  | succ j ih => exact ih.step (c := 65 + (2 * j + 2)) (by omega) (by omega)

/-- 96 decisions are enough: each moves a cursor, and the cursors end after 88. -/
theorem Evaluating.ends {ctrl : Byte} {sl : Int} {oam : Memory} {e : SpriteEval} (h : Evaluating ctrl sl oam 96 e) :
    Selected ctrl sl oam e ∧ e.count ≤ 8 ∧ e.done = true := by
  rcases h with hscan | ⟨hselected, hcount, hdone | ⟨-, hn, hj⟩⟩
  · have hn := hscan.n_lt
    have hcount := hscan.count_lt
    have hlt := e.m.isLt
    have hj := hscan.decisions
    omega
  · exact ⟨hselected, hcount, hdone⟩
  · omega

/-- The run over the window: it completes and does its dots of evaluation. -/
theorem run_evaluation {s : State} (hcart : s.cart.NeverFails) (hl : OnVisibleLine s) (hc : s.seq.cycle = 65)
    (hon : s.regs.renderingEnabled = true) : ∃ t, runTicks 192 s = .next t ∧ t.seq.cycle = 257 ∧
      t.eval = evalAfter s.regs.ctrl s.seq.scanline s.oam s.eval 192 := by
  obtain ⟨hl0, hl1⟩ := hl
  have hdots : s.seq.dots = (s.seq.scanline + 1).toNat * 341 + 65 := by rw [Sequencer.dots, hc]
  have hstand : Standing s.seq.dots s := by
    refine ⟨⟨by omega, by omega, by omega⟩, rfl, .inl hcart, by omega⟩
  have hrun := hstand.run (n := 192) (by omega) (.inl (by omega))
  have hat {k : Nat} (hk : k ≤ 192) {t : State} (ht : Standing (s.seq.dots + k) t) :
      At t s.seq.scanline (65 + k) := by
    rw [ht.at_iff (by omega) (by omega)]
    omega
  obtain ⟨t, ht, hend, -⟩ := hrun 192 le_rfl
  refine ⟨t, ht, (hat le_rfl hend).2, ?_⟩
  have hwindow := run_induction (s := s) (n := 192)
    (Q := fun k t => t.regs.ctrl = s.regs.ctrl ∧ t.regs.renderingEnabled = true ∧ t.oam = s.oam ∧
      t.eval = evalAfter s.regs.ctrl s.seq.scanline s.oam s.eval k)
    ⟨rfl, hon, rfl, rfl⟩ fun k t u hlt hk hQ hu => by
      obtain ⟨hctrl, hon', hoam, heval⟩ := hQ
      obtain ⟨t', ht', hstand', -⟩ := hrun k hlt.le
      obtain rfl : t' = t := by
        rw [hk] at ht'
        cases ht'
        rfl
      obtain ⟨hline, hdot⟩ := hat hlt.le hstand'
      obtain ⟨-, -, hoam', -⟩ := tick_memories hu
      have hkeep := tick_regs hu
      refine ⟨by rw [hkeep]; exact hctrl, by rw [hkeep]; exact hon', by rw [hoam', hoam], ?_⟩
      rw [tick_eval_of_evaluates hu (by omega) ⟨by omega, by omega, hon'⟩, hctrl, hoam, hline, hdot, heval]
      rfl
  obtain ⟨-, -, -, heval⟩ := hwindow 192 le_rfl t ht
  exact heval

/-- What a whole evaluation leaves. -/
theorem run_evaluation_selects {s : State} (hcart : s.cart.NeverFails) (hl : OnVisibleLine s) (hc : s.seq.cycle = 65)
    (hon : s.regs.renderingEnabled = true) : ∃ t, runTicks 192 s = .next t ∧ t.seq.cycle = 257 ∧
      Selected s.regs.ctrl s.seq.scanline s.oam t.eval ∧ t.eval.count ≤ 8 ∧ t.eval.done = true := by
  obtain ⟨t, ht, hcycle, heval⟩ := run_evaluation hcart hl hc hon
  refine ⟨t, ht, hcycle, ?_⟩
  rw [heval]
  exact (evaluating_evalAfter _ _ _ _ 95).ends

/-- Settles O43: 96 decisions end evaluation. -/
theorem evaluationFinishesInItsWindow : Obligations.EvaluationFinishesInItsWindow := by
  unfold Obligations.EvaluationFinishesInItsWindow
  intro s hcart hl hc hon
  obtain ⟨t, ht, hcycle, -, hcount, hdone⟩ := run_evaluation_selects hcart hl hc hon
  exact ⟨t, ht, hcycle, hdone, hcount⟩

/-- Settles O44: what the scan has found when it ends. -/
theorem evaluationSelectsTheFirstEightSprites : Obligations.EvaluationSelectsTheFirstEightSprites := by
  unfold Obligations.EvaluationSelectsTheFirstEightSprites
  intro s hcart hl hc hon
  obtain ⟨t, ht, -, hselected, -⟩ := run_evaluation_selects hcart hl hc hon
  exact ⟨t, ht, hselected.count, hselected.zeroPossible, hselected.slots⟩

end Sys2Proof.Machine
